-- ==== Sys2Proof/Word.lean ====
section
/-! DEFINITION. Widths of the Belcora 4816: bytes of a frame, values of the time base, cylinder and slot numbers. -/

namespace Sys2Proof

/-- One byte of a frame, a response or a log entry (R155, R162, R164). -/
abbrev Byte := BitVec 8

/-- A two-byte field, most significant byte first (section 9.1). -/
abbrev Word16 := BitVec 16

/-- A value of the time base: microseconds modulo 2^32 (R24). -/
abbrev Time := BitVec 32

/-- The nine bytes of response data, response bytes 2 to 10 (section 9.2). -/
abbrev Data := BitVec 72

/-- The ten bytes of command fields, request bytes 1 to 10 (section 9.2). -/
abbrev Payload := BitVec 80

/-- Bytes 0 to 10 of a frame, which the frame check covers (R157). -/
abbrev Body := BitVec 88

/-- A cylinder of the status table: index 0 is cylinder 1 (section 4.2 of the introduction). -/
abbrev Cylinder := Fin 8

/-- A slot of the firing timeline, 0 to 39 (section 3.1). -/
abbrev Slot := Fin 40

/-- A mark unit, 0 to 7 (section 1.6). -/
abbrev MarkIndex := Fin 8

/-- The eight cylinders in increasing number. -/
def allCylinders : List Cylinder := [0, 1, 2, 3, 4, 5, 6, 7]

/-- The eight mark units in increasing number. -/
def allMarks : List MarkIndex := [0, 1, 2, 3, 4, 5, 6, 7]

/-- The forty slots in increasing number. -/
def allSlots : List Slot := List.finRange 40

/-- A cylinder's number, 1 to 8. -/
def cylinderNumber (c : Cylinder) : Nat := c.val + 1

end Sys2Proof
end

