-- ==== Sys2Proof/Config.lean ====
section
/-! DEFINITION. The constants the part fixes, and the values the spec leaves free: the order in which the leaving-SYNCED notice frees the final
records (R112, DESIGN CHOICE, log 7), and an SDO line while SEL_N is low without a frame (R155, DESIGN CHOICE, log 27). -/

namespace Sys2Proof.Config

/-- Steps of one engine cycle, 720 degrees (section 4.1 of the introduction). -/
def cycleSteps : Nat := 11520

/-- Steps of one revolution (section 4.1 of the introduction). -/
def revolutionSteps : Nat := 5760

/-- Steps of one tooth pitch (section 4.1 of the introduction). -/
def pitchSteps : Nat := 96

/-- The last real tooth before the gap (section 4.2 of the introduction). -/
def lastToothIndex : Nat := 57

/-- The least duration a pulse may have, in microseconds (R82, R37). -/
def minDuration : Nat := 20

/-- The greatest duration a pulse may have, in microseconds (R82). -/
def maxDuration : Nat := 4000

/-- Entries an answer log holds (R147). -/
def logDepth : Nat := 32

/-- Entries a staging queue holds (R64). -/
def stagingDepth : Nat := 16

/-- Fuel takes in a row after which a waiting thermal request is taken (R73). -/
def fuelRunLimit : Nat := 4

/-- The streak at which INJECTOR_WATCH is raised and at which it holds (R117). -/
def streakLimit : Nat := 3

/-- The greatest follow count of the capture record (R144). -/
def followLimit : Nat := 255

/-- How far below the limit the overspeed-active flag clears, in rpm (R128). -/
def overspeedHysteresis : Nat := 100

/-- More timer expiries than the part can have between two commands (DESIGN CHOICE, log 2): at most 40 starts, each with a peak
deadline, an end and a recovery end, and one stall expiry. -/
def timerFuel : Nat := 256

/-- A free value: the rank of a slot among those that a leaving-SYNCED notice at a time frees. The spec gives the frees no order (R112;
DESIGN CHOICE, log 7). -/
opaque leavingRank : Nat → Nat → Nat

/-- A free value: what the SDO line of a link shows at a time, after a number of edges, while its port ignores the link because SEL_N has been low since the
release of RESET_N. The spec describes SDO during a frame and while SEL_N is high (R155; DESIGN CHOICE, log 27). -/
opaque ignoredSdo : Nat → Nat → Nat → Option Bool

end Sys2Proof.Config
end

