-- ==== Sys2Proof/Syntax.lean ====
section
/-! DEFINITION. The commands: one constructor of `Instr` for each of the 47 rows of spec/opcode_table.json, with the
row's operands. Frame commands carry the sending link and their fields as carried in the frame (R161, R163). -/

namespace Sys2Proof

/-- The three SPI links, each named by its master (section 4.4 of the introduction). -/
inductive Link where
  | fuel
  | thermal
  | supervisor
deriving DecidableEq, Repr

/-- The two channels of the power stage (section 4.2 of the introduction). -/
inductive Bank where
  | bankA
  | bankB
deriving DecidableEq, Repr

/-- The blocks that have a part in a tooth: the angle clock, and the blocks that take its advance (R15, R114). -/
inductive Block where
  | clock
  | release
  | limits
  | driver (b : Bank)
  | marks
deriving DecidableEq, Repr

/-- A turn in the order of one tooth's events: a block takes the advance, or the fault unit takes the earliest fault that a block has raised and
that waits (R15, R121, R131, R140; that the order is an operand is a DESIGN CHOICE, log 5). -/
inductive EdgeTurn where
  | acts (x : Block)
  | fault (x : Block)
deriving DecidableEq, Repr

/-- A frame as a link port receives it: the rising edges of SCK it counted, and the 96 bits in the order received, byte 0
the most significant (R155). The bits mean something only when the count is 96. -/
structure Frame where
  edges : Nat
  bits : BitVec 96
deriving DecidableEq, Repr

/-- The fields of a PLACE as carried (R67, R163). -/
structure PlaceRequest where
  cylinder : Byte
  kind : BitVec 4
  report : Bool
  stampPresent : Bool
  offset : Word16
  duration : Word16
  priority : Byte
  repeats : Byte
  tag : Byte
  stamp : Byte
deriving DecidableEq, Repr

/-- The fields of an AMEND as carried (R68, R163). -/
structure AmendRequest where
  slot : Byte
  tag : Byte
  offsetPresent : Bool
  durationPresent : Bool
  offset : Word16
  duration : Word16
deriving DecidableEq, Repr

/-- The fields of a WITHDRAW as carried (R69, R163). -/
structure WithdrawRequest where
  slot : Byte
  tag : Byte
deriving DecidableEq, Repr

/-- The levels of the input lines at the release of RESET_N (R118, R155). -/
structure ResetLines where
  stageFaultA : Bool
  stageFaultB : Bool
  fuelSelected : Bool
  thermalSelected : Bool
  supervisorSelected : Bool
deriving DecidableEq, Repr

/-- The commands. `t` is the time-base value at which the command is taken (DESIGN CHOICE, log 1), `l` the link that sends it. -/
inductive Instr where
  | powerOnReset (lines : ResetLines)
  | crankEdge (t : Time) (order : List EdgeTurn)
  | camEdge (t : Time)
  | stallExpiry (t : Time)
  | peakEdge (t : Time) (b : Bank)
  | stageFaultAssertion (t : Time) (b : Bank)
  | stageFaultNegation (t : Time) (b : Bank)
  | startDecision (t : Time) (b : Bank)
  | endOfPulse (t : Time) (b : Bank)
  | peakDeadline (t : Time) (b : Bank)
  | recoveryEnd (t : Time) (b : Bank)
  | refusedFrame (t : Time) (l : Link) (frame : Frame)
  | nop (t : Time) (l : Link)
  | readStatus (t : Time) (l : Link) (part : Byte)
  | readTime (t : Time) (l : Link)
  | readAngle (t : Time) (l : Link)
  | readRecord (t : Time) (l : Link) (slot : Byte) (part : Byte)
  | readCylinder (t : Time) (l : Link) (cylinder : Byte) (part : Byte)
  | popLog (t : Time) (l : Link)
  | ackEvents (t : Time) (l : Link) (flags : Word16)
  | setNoticeEnables (t : Time) (l : Link) (flags : Word16)
  | portReset (t : Time) (l : Link)
  | setMark (t : Time) (l : Link) (mask : Byte) (offset : Word16) (mode : Byte)
  | clearMark (t : Time) (l : Link) (unit : Byte)
  | setPortState (t : Time) (l : Link) (state : Byte) (watermark : Byte)
  | clearStaging (t : Time) (l : Link)
  | place (t : Time) (l : Link) (request : PlaceRequest)
  | amend (t : Time) (l : Link) (request : AmendRequest)
  | withdraw (t : Time) (l : Link) (request : WithdrawRequest)
  | takePlace (t : Time)
  | takeAmend (t : Time)
  | takeWithdraw (t : Time)
  | setLimit (t : Time) (l : Link) (item : Byte) (value : Word16)
  | setEnableMask (t : Time) (l : Link) (mask : Byte)
  | cutNow (t : Time) (l : Link) (mask : Byte)
  | withdrawAny (t : Time) (l : Link) (slot : Byte)
  | setFaultMask (t : Time) (l : Link) (mask : Word16)
  | readFaults (t : Time) (l : Link)
  | ackFaults (t : Time) (l : Link) (kinds : Word16)
  | readCapture (t : Time) (l : Link)
  | clearCapture (t : Time) (l : Link)
  | scrubPool (t : Time) (l : Link)
  | softReset (t : Time) (l : Link)
  | resetPort (t : Time) (l : Link) (target : Byte)
  | configWrite (t : Time) (l : Link) (item : Byte) (value : Data)
  | configRead (t : Time) (l : Link) (item : Byte)
  | commitConfig (t : Time) (l : Link)
deriving DecidableEq, Repr

end Sys2Proof
end

