-- ==== Sys2Proof/Decode.lean ====
section
/-! DEFINITION. Frames and the commands they carry: the frame check (R157), the command codes and permissions (section 9.5),
the reading of a frame into a command (R155, R158, R161, R163), the writing of a command's frame, and the reading of a
word of the opcode table. -/

namespace Sys2Proof

/-! ### The frame check (R157) -/

/-- One shift of the frame check: the bit leaving position 7 decides whether 97h is combined (R157). -/
def checkShift (v : Byte) : Byte :=
  if v.msb then (v <<< 1) ^^^ 0x97#8 else v <<< 1

/-- One byte taken into the frame check: exclusive-or, then eight shifts (R157). -/
def checkByte (v b : Byte) : Byte :=
  checkShift (checkShift (checkShift (checkShift (checkShift (checkShift (checkShift (checkShift (v ^^^ b))))))))

/-- Byte `i` of bytes 0 to 10, byte 0 the most significant. -/
def bodyByte (body : Body) (i : Nat) : Byte :=
  body.extractLsb' (80 - 8 * i) 8

/-- The frame check over bytes 0 to 10 (R157). -/
def frameCheck (body : Body) : Byte :=
  [0, 1, 2, 3, 4, 5, 6, 7, 8, 9, 10].foldl (fun v i => checkByte v (bodyByte body i)) 0xFF#8

/-! ### Command codes and permissions (section 9.5) -/

/-- The commands of the table of section 9.5. -/
inductive CommandName where
  | nop | readStatus | readTime | readAngle | readRecord | readCylinder | popLog | ackEvents | setNoticeEnables
  | portReset | setMark | clearMark | setPortState | clearStaging | place | amend | withdraw | setLimit | setEnableMask
  | cutNow | withdrawAny | setFaultMask | readFaults | ackFaults | readCapture | clearCapture | scrubPool | softReset
  | resetPort | configWrite | configRead | commitConfig
deriving DecidableEq, Repr

/-- The command code of byte 0 (section 9.5). -/
def commandCode : CommandName → Byte
  | .nop => 0x01 | .readStatus => 0x02 | .readTime => 0x03 | .readAngle => 0x04 | .readRecord => 0x05
  | .readCylinder => 0x06 | .popLog => 0x07 | .ackEvents => 0x08 | .setNoticeEnables => 0x09 | .portReset => 0x0A
  | .setMark => 0x0B | .clearMark => 0x0C | .setPortState => 0x10 | .clearStaging => 0x11 | .place => 0x12
  | .amend => 0x13 | .withdraw => 0x14 | .setLimit => 0x20 | .setEnableMask => 0x21 | .cutNow => 0x22
  | .withdrawAny => 0x23 | .setFaultMask => 0x24 | .readFaults => 0x25 | .ackFaults => 0x26 | .readCapture => 0x27
  | .clearCapture => 0x28 | .scrubPool => 0x29 | .softReset => 0x2A | .resetPort => 0x2B | .configWrite => 0x2C
  | .configRead => 0x2D | .commitConfig => 0x2E

/-- Every command of section 9.5, in the table's order. -/
def allCommandNames : List CommandName :=
  [.nop, .readStatus, .readTime, .readAngle, .readRecord, .readCylinder, .popLog, .ackEvents, .setNoticeEnables,
   .portReset, .setMark, .clearMark, .setPortState, .clearStaging, .place, .amend, .withdraw, .setLimit, .setEnableMask,
   .cutNow, .withdrawAny, .setFaultMask, .readFaults, .ackFaults, .readCapture, .clearCapture, .scrubPool, .softReset,
   .resetPort, .configWrite, .configRead, .commitConfig]

/-- The command a code names; none for a code not in the table (R158, test 3). -/
def commandOfCode (code : Byte) : Option CommandName :=
  allCommandNames.find? fun n => commandCode n == code

/-- Whether a link may carry a command (section 9.5; R158, test 4). -/
def permitted : CommandName → Link → Bool
  | .nop, _ | .readStatus, _ | .readTime, _ | .readAngle, _ | .readRecord, _ | .readCylinder, _ | .popLog, _
  | .ackEvents, _ | .setNoticeEnables, _ | .portReset, _ | .setMark, _ | .clearMark, _ => true
  | .setPortState, l | .clearStaging, l | .place, l | .amend, l | .withdraw, l => l != .supervisor
  | .setLimit, l | .setEnableMask, l | .cutNow, l | .withdrawAny, l | .setFaultMask, l | .readFaults, l
  | .ackFaults, l | .readCapture, l | .clearCapture, l | .scrubPool, l | .softReset, l | .resetPort, l
  | .configWrite, l | .configRead, l | .commitConfig, l => l == .supervisor

/-! ### Frames (R155, R158) -/

/-- Bytes 0 to 10 of a whole frame. -/
def Frame.body (f : Frame) : Body := f.bits.extractLsb' 8 88

/-- Byte 0 of a whole frame, the command code. -/
def Frame.code (f : Frame) : Byte := f.bits.extractLsb' 88 8

/-- Byte 11 of a whole frame, the frame check as sent. -/
def Frame.check (f : Frame) : Byte := f.bits.extractLsb' 0 8

/-- Bytes 1 to 10 of a whole frame, the command fields. -/
def Frame.payload (f : Frame) : Payload := f.bits.extractLsb' 8 80

/-- How the first three tests of R158 judge a frame. -/
inductive FrameVerdict where
  /-- Test 1 fails: the count of edges is not 96. -/
  | badLength
  /-- Test 2 fails: byte 11 is not the frame check. -/
  | badCheck
  /-- Test 3 fails: byte 0 is no command code. -/
  | badCommand
  /-- The three tests pass. -/
  | names (n : CommandName)
deriving DecidableEq, Repr

/-- The first three tests of R158, in their order. -/
def judgeFrame (f : Frame) : FrameVerdict :=
  if f.edges != 96 then .badLength
  else if f.check != frameCheck f.body then .badCheck
  else match commandOfCode f.code with
    | none => .badCommand
    | some n => .names n

/-- A field of `w` bits that starts at bit `at'` of the command fields, counted from the most significant bit of byte 1. -/
def Payload.field (p : Payload) (at' w : Nat) : BitVec w := p.extractLsb' (80 - at' - w) w

/-- One bit of the command fields: bit `k` (7 the most significant) of request byte `i`. -/
def Payload.flag (p : Payload) (i k : Nat) : Bool := p.getLsbD (80 - 8 * i + k)

/-- The command that the fields of a frame carry, by R161 for immediate and R163 for staged commands; bytes and bits
beyond a command's fields are ignored. -/
def readPayload (t : Time) (l : Link) (p : Payload) : CommandName → Instr
  | .nop => .nop t l
  | .readStatus => .readStatus t l (p.field 0 8)
  | .readTime => .readTime t l
  | .readAngle => .readAngle t l
  | .readRecord => .readRecord t l (p.field 0 8) (p.field 8 8)
  | .readCylinder => .readCylinder t l (p.field 0 8) (p.field 8 8)
  | .popLog => .popLog t l
  | .ackEvents => .ackEvents t l (p.field 0 16)
  | .setNoticeEnables => .setNoticeEnables t l (p.field 0 16)
  | .portReset => .portReset t l
  | .setMark => .setMark t l (p.field 0 8) (p.field 8 16) (p.field 24 8)
  | .clearMark => .clearMark t l (p.field 0 8)
  | .setPortState => .setPortState t l (p.field 0 8) (p.field 8 8)
  | .clearStaging => .clearStaging t l
  | .place => .place t l
      { cylinder := p.field 0 8, kind := p.field 12 4, report := p.flag 2 6, stampPresent := p.flag 2 7,
        offset := p.field 16 16, duration := p.field 32 16, priority := p.field 48 8, repeats := p.field 56 8,
        tag := p.field 64 8, stamp := p.field 72 8 }
  | .amend => .amend t l
      { slot := p.field 0 8, tag := p.field 8 8, offsetPresent := p.flag 3 0, durationPresent := p.flag 3 1,
        offset := p.field 24 16, duration := p.field 40 16 }
  | .withdraw => .withdraw t l { slot := p.field 0 8, tag := p.field 8 8 }
  | .setLimit => .setLimit t l (p.field 0 8) (p.field 8 16)
  | .setEnableMask => .setEnableMask t l (p.field 0 8)
  | .cutNow => .cutNow t l (p.field 0 8)
  | .withdrawAny => .withdrawAny t l (p.field 0 8)
  | .setFaultMask => .setFaultMask t l (p.field 0 16)
  | .readFaults => .readFaults t l
  | .ackFaults => .ackFaults t l (p.field 0 16)
  | .readCapture => .readCapture t l
  | .clearCapture => .clearCapture t l
  | .scrubPool => .scrubPool t l
  | .softReset => .softReset t l
  | .resetPort => .resetPort t l (p.field 0 8)
  | .configWrite => .configWrite t l (p.field 0 8) (p.field 8 72)
  | .configRead => .configRead t l (p.field 0 8)
  | .commitConfig => .commitConfig t l

/-- The command a link port makes of a frame ended at `t`: REFUSED_FRAME when one of the first three tests of R158 fails,
else the command the frame carries. Tests 4 and 5 of R158 are the commands' own (their meanings make them). -/
def readFrame (t : Time) (l : Link) (f : Frame) : Instr :=
  match judgeFrame f with
  | .names n => readPayload t l f.payload n
  | _ => .refusedFrame t l f

/-! ### Writing a frame -/

/-- The command fields of a frame command, with 0 in the bits and bytes its layout does not assign (R161, R163). -/
def writePayload : Instr → Option (CommandName × Payload)
  | .nop _ _ => some (.nop, 0#80)
  | .readStatus _ _ part => some (.readStatus, part ++ 0#72)
  | .readTime _ _ => some (.readTime, 0#80)
  | .readAngle _ _ => some (.readAngle, 0#80)
  | .readRecord _ _ slot part => some (.readRecord, slot ++ part ++ 0#64)
  | .readCylinder _ _ cylinder part => some (.readCylinder, cylinder ++ part ++ 0#64)
  | .popLog _ _ => some (.popLog, 0#80)
  | .ackEvents _ _ flags => some (.ackEvents, flags ++ 0#64)
  | .setNoticeEnables _ _ flags => some (.setNoticeEnables, flags ++ 0#64)
  | .portReset _ _ => some (.portReset, 0#80)
  | .setMark _ _ mask offset mode => some (.setMark, mask ++ offset ++ mode ++ 0#48)
  | .clearMark _ _ unit => some (.clearMark, unit ++ 0#72)
  | .setPortState _ _ state watermark => some (.setPortState, state ++ watermark ++ 0#64)
  | .clearStaging _ _ => some (.clearStaging, 0#80)
  | .place _ _ r => some (.place,
      r.cylinder ++ BitVec.ofBool r.stampPresent ++ BitVec.ofBool r.report ++ 0#2 ++ r.kind ++ r.offset ++ r.duration
        ++ r.priority ++ r.repeats ++ r.tag ++ r.stamp)
  | .amend _ _ r => some (.amend,
      r.slot ++ r.tag ++ 0#6 ++ BitVec.ofBool r.durationPresent ++ BitVec.ofBool r.offsetPresent ++ r.offset
        ++ r.duration ++ 0#24)
  | .withdraw _ _ r => some (.withdraw, r.slot ++ r.tag ++ 0#64)
  | .setLimit _ _ item value => some (.setLimit, item ++ value ++ 0#56)
  | .setEnableMask _ _ mask => some (.setEnableMask, mask ++ 0#72)
  | .cutNow _ _ mask => some (.cutNow, mask ++ 0#72)
  | .withdrawAny _ _ slot => some (.withdrawAny, slot ++ 0#72)
  | .setFaultMask _ _ mask => some (.setFaultMask, mask ++ 0#64)
  | .readFaults _ _ => some (.readFaults, 0#80)
  | .ackFaults _ _ kinds => some (.ackFaults, kinds ++ 0#64)
  | .readCapture _ _ => some (.readCapture, 0#80)
  | .clearCapture _ _ => some (.clearCapture, 0#80)
  | .scrubPool _ _ => some (.scrubPool, 0#80)
  | .softReset _ _ => some (.softReset, 0#80)
  | .resetPort _ _ target => some (.resetPort, target ++ 0#72)
  | .configWrite _ _ item value => some (.configWrite, item ++ value)
  | .configRead _ _ item => some (.configRead, item ++ 0#72)
  | .commitConfig _ _ => some (.commitConfig, 0#80)
  | .powerOnReset _ | .crankEdge _ _ | .camEdge _ | .stallExpiry _ | .peakEdge _ _ | .stageFaultAssertion _ _
  | .stageFaultNegation _ _ | .startDecision _ _ | .endOfPulse _ _ | .peakDeadline _ _ | .recoveryEnd _ _
  | .refusedFrame _ _ _ | .takePlace _ | .takeAmend _ | .takeWithdraw _ => none

/-- A whole frame of a command code and its fields, with the frame check in byte 11 (R155, R157). -/
def frameOf (n : CommandName) (p : Payload) : Frame :=
  { edges := 96, bits := (commandCode n ++ p) ++ frameCheck (commandCode n ++ p) }

/-- The frame a master sends for a command; none for a command that no frame carries. -/
def writeFrame (i : Instr) : Option Frame :=
  (writePayload i).map fun np => frameOf np.1 np.2

/-! ### Words of the opcode table -/

/-- The command a word of the opcode table spells. The table gives no row any bits, so no word spells a command. -/
def decodeTableWord (_nbits _w : Nat) : Option Instr := none

end Sys2Proof
end

