-- ==== Sys2Proof/WellFormed.lean ====
section
/-! DEFINITION. Which terms are commands at all. Every field a frame can carry is a command field the block itself judges (R66,
R158), so one check remains: a REFUSED_FRAME carries a frame that the first three tests of R158 refuse. -/

namespace Sys2Proof

/-- The frame of a REFUSED_FRAME fails one of the first three tests of R158. -/
def Frame.isRefused (f : Frame) : Bool :=
  match judgeFrame f with
  | .names _ => false
  | _ => true

/-- Whether a term stands for a command of the table. -/
def Instr.wellFormed : Instr → Bool
  | .refusedFrame _ _ f => f.isRefused
  | .powerOnReset _ | .crankEdge _ _ | .camEdge _ | .stallExpiry _ | .peakEdge _ _ | .stageFaultAssertion _ _
  | .stageFaultNegation _ _ | .startDecision _ _ | .endOfPulse _ _ | .peakDeadline _ _ | .recoveryEnd _ _ | .nop _ _
  | .readStatus _ _ _ | .readTime _ _ | .readAngle _ _ | .readRecord _ _ _ _ | .readCylinder _ _ _ _ | .popLog _ _
  | .ackEvents _ _ _ | .setNoticeEnables _ _ _ | .portReset _ _ | .setMark _ _ _ _ _ | .clearMark _ _ _
  | .setPortState _ _ _ _ | .clearStaging _ _ | .place _ _ _ | .amend _ _ _ | .withdraw _ _ _ | .takePlace _
  | .takeAmend _ | .takeWithdraw _ | .setLimit _ _ _ _ | .setEnableMask _ _ _ | .cutNow _ _ _ | .withdrawAny _ _ _
  | .setFaultMask _ _ _ | .readFaults _ _ | .ackFaults _ _ _ | .readCapture _ _ | .clearCapture _ _ | .scrubPool _ _
  | .softReset _ _ | .resetPort _ _ _ | .configWrite _ _ _ _ | .configRead _ _ _ | .commitConfig _ _ => true

end Sys2Proof
end

