-- ==== Sys2Proof/Machine/State.lean ====
section
/-! DEFINITION. The state of the part: every register, list, queue, counter, flag and line the spec gives it (INVENTORY.md,
State), the queue of waiting commands, and the state after a power-on reset. -/

namespace Sys2Proof.Machine

/-! ### Small containers -/

/-- One value for each of the three links. -/
structure PerLink (α : Type) where
  fuel : α
  thermal : α
  supervisor : α
deriving DecidableEq, Repr

/-- One value for each of the eight cylinders, or of the eight mark units, in increasing number. -/
structure Eight (α : Type) where
  v0 : α
  v1 : α
  v2 : α
  v3 : α
  v4 : α
  v5 : α
  v6 : α
  v7 : α
deriving DecidableEq, Repr

/-- Eight equal values. -/
def Eight.all {α : Type} (a : α) : Eight α :=
  { v0 := a, v1 := a, v2 := a, v3 := a, v4 := a, v5 := a, v6 := a, v7 := a }

/-! ### Names the blocks use -/

/-- The request link that placed a record (R41); also the name of a request link. -/
inductive Owner where
  | fuel
  | thermal
deriving DecidableEq, Repr

/-- The role of a pulse (R41). -/
inductive Kind where
  | pre
  | main
  | after
  | late
deriving DecidableEq, Repr

/-- The sync state of the angle clock (section 1.3). -/
inductive SyncState where
  | stopped
  | hunt
  | gapFound
  | synced
deriving DecidableEq, Repr

/-- The state of a request port (R62). -/
inductive PortState where
  | quiet
  | hold
  | live
deriving DecidableEq, Repr

/-- The mode of a mark unit (section 1.6). -/
inductive MarkMode where
  | once
  | every
deriving DecidableEq, Repr

/-- The eleven fault kinds (section 8.1). -/
inductive FaultKind where
  | lateStart
  | slipSkip
  | camFault
  | noRise
  | dryCylinder
  | syncError
  | phaseError
  | integrity
  | stageFault
  | overspeed
  | injectorWatch
deriving DecidableEq, Repr

/-- The event flags of a link, in the order of the table of section 8.5. -/
inductive Flag where
  | log
  | staged
  | fault
  | logLost
  | mark
  | sync
  | clamp
  | displaced
  | poolLow
  | carry
  | capture
deriving DecidableEq, Repr

/-- The status codes of section 9.4. -/
inductive Status where
  | none
  | ok
  | clamped
  | empty
  | badCheck
  | frameLength
  | badCommand
  | notPermitted
  | portQuiet
  | stagingFull
  | badArgument
  | noMarkFree
  | notOwner
  | noSuchRecord
  | tooLate
  | engineRunning
  | timelineBusy
  | configInconsistent
deriving DecidableEq, Repr

/-- The reasons of a REFUSED entry (R94, section 9.8). -/
inductive Reason where
  | notReady
  | badCylinder
  | badKind
  | badDuration
  | notSynced
  | stale
  | early
  | poolEmpty
  | poolLow
  | conflict
  | cylinderFull
  | budget
  | badArgument
  | noSuchRecord
  | tooLate
deriving DecidableEq, Repr

/-- The causes of a DISPLACED entry (R94, section 9.8). -/
inductive DisplaceCause where
  | conflict
  | capacity
  | budget
  | integrity
  | supervisor
deriving DecidableEq, Repr

/-- The causes of a suppression (R122). -/
inductive SuppressCause where
  | disabled
  | overspeed
  | stage
  | cut
deriving DecidableEq, Repr

/-- The outcomes of a start (R114). -/
inductive StartOutcome where
  | fired
  | late
  | slipped
deriving DecidableEq, Repr

/-- The outcomes of a firing opportunity (R122). -/
inductive Outcome where
  | started (o : StartOutcome)
  | truncatedStage
  | truncatedCut
  | skippedSlip
  | budgetSkipped
  | suppressed (cause : SuppressCause)
deriving DecidableEq, Repr

/-- The three staged commands (R64). -/
inductive StagedCommand where
  | place
  | amend
  | withdraw
deriving DecidableEq, Repr

/-! ### The angle clock and the marks (chapter 1) -/

/-- The cam history: what the current-cycle record notes, and the previous-cycle verdict (R13, R14). -/
structure CamHistory where
  seen : Bool
  good : Bool
  opposite : Bool
  /-- The previous cycle was an opposite cycle. -/
  verdict : Bool
deriving DecidableEq, Repr

/-- The angle clock (section 1.1); rpm is the function `Clock.rpm` of the period (DEDUCED, log 9). -/
structure Clock where
  sync : SyncState
  lastTooth : Time
  /-- P, the tooth period in microseconds; absent as R3 and R8 state. -/
  period : Option Nat
  normalSeen : Bool
  tooth : Nat
  revolution : Fin 2
  lastAngle : Nat
  cycle : Word16
  cam : CamHistory
  /-- The stall timer: idle, or its expiry time (R7). -/
  stall : Option Time
deriving DecidableEq, Repr

/-- The setting of a mark unit (section 1.6). -/
structure MarkUnit where
  owner : Link
  mask : Byte
  offset : Int
  mode : MarkMode
deriving DecidableEq, Repr

/-! ### The firing timeline (chapter 3) -/

/-- The firing fields a RELEASED and a FIRING record share (R42). -/
structure FiringFields where
  /-- The released duration. -/
  duration : Nat
  /-- Budget-shortened. -/
  shortened : Bool
  final : Bool
deriving DecidableEq, Repr

/-- The state of a record, with the firing fields that state has (R42, R43). -/
inductive Phase where
  | pending
  | released (f : FiringFields) (planned : Time)
  | firing (f : FiringFields) (actual : Time)
deriving DecidableEq, Repr

/-- A pulse record (R41, R42, R46). Its owner, cylinder and kind are always ones that have a name: a stored field flipped to a code that names
none, on which R47 is silent, has no record here (DESIGN CHOICE, log 26). -/
structure Record where
  slot : Slot
  owner : Owner
  tag : Byte
  carried : Bool
  cylinder : Cylinder
  kind : Kind
  offset : Int
  start : Nat
  duration : Nat
  priority : Nat
  repeats : Nat
  report : Bool
  check : Bool
  phase : Phase
deriving DecidableEq, Repr

/-- The slot pool and its homes (R38). A chain of link words is the list of what it links (DESIGN CHOICE, log 10). -/
structure Pool where
  free : List Slot
  lists : Eight (List Record)
  quarantine : List Record
deriving DecidableEq, Repr

/-- A carry entry (section 3.11). -/
structure CarryEntry where
  offset : Int
  duration : Nat
deriving DecidableEq, Repr

/-- An entry of the cylinder status table (section 3.11); its enable is the bit of the enable mask (R125, DEDUCED, log 9). -/
structure CylinderStatus where
  bank : Option Bank
  tdc : Nat
  released : Nat
  fired : Nat
  lastFired : Nat
  carry : Option CarryEntry
  carryCount : Nat
  streak : Nat
deriving DecidableEq, Repr

/-! ### Request staging (chapter 4) -/

/-- An entry of a staging queue: the command and its fields as carried (R64). -/
inductive Staged where
  | place (r : PlaceRequest)
  | amend (r : AmendRequest)
  | withdraw (r : WithdrawRequest)
deriving DecidableEq, Repr

/-- The port of a request link (R62, R64, R70). -/
structure RequestPort where
  state : PortState
  /-- The staging queue, head first. -/
  queue : List Staged
  watermark : Nat
deriving DecidableEq, Repr

/-- The two request ports and the arbiter's count (R73). -/
structure Staging where
  fuel : RequestPort
  thermal : RequestPort
  fuelRun : Nat
deriving DecidableEq, Repr

/-! ### The bank drivers (chapter 6) -/

/-- An entry of a waiting list (R110). -/
structure WaitEntry where
  slot : Slot
  late : Bool
deriving DecidableEq, Repr

/-- The running pulse and its peak watch (section 6.6). -/
structure RunningPulse where
  slot : Slot
  /-- The pulse end time. -/
  ends : Time
  /-- The cycle counter at the start. -/
  cycle : Word16
  outcome : StartOutcome
  peakSeen : Bool
  noRise : Bool
  /-- The peak deadline while it is armed; absent once it has passed. -/
  deadline : Option Time
deriving DecidableEq, Repr

/-- The state of a bank, with what the bank holds in it (section 6.6). -/
inductive BankState where
  | idle
  | firing (p : RunningPulse)
  | recovery (ends : Time)
deriving DecidableEq, Repr

/-- A bank driver and its STAGE_FAULT input line (section 6.6, R118). -/
structure BankDriver where
  state : BankState
  /-- The waiting list, head first. -/
  waiting : List WaitEntry
  /-- The STAGE_FAULT line is asserted. -/
  stageFault : Bool
deriving DecidableEq, Repr

/-- The two bank drivers and the eight FIRE lines (R113): line n is bit n−1, set when asserted. -/
structure Drivers where
  bankA : BankDriver
  bankB : BankDriver
  fire : Byte
deriving DecidableEq, Repr

/-! ### Limits, faults, logs and links (chapters 7, 8, 9) -/

/-- The limit set (R125). -/
structure Limits where
  overspeed : Nat
  budget : Nat
  fuelCeiling : Nat
  thermalCeiling : Nat
  reserve : Nat
  /-- The enable mask: cylinder n is bit n−1. -/
  enables : Byte
  overspeedActive : Bool
deriving DecidableEq, Repr

/-- A fault record (R140); its severity is that of its kind (section 8.1). -/
structure FaultRecord where
  kind : FaultKind
  cylinder : Option Cylinder
  slot : Option Slot
  cycle : Word16
  time : Time
deriving DecidableEq, Repr

/-- The capture record, filled (R144). -/
structure Capture where
  record : FaultRecord
  follow : Nat
deriving DecidableEq, Repr

/-- A fault record that a block has handed to the fault unit (R140). -/
structure RaisedFault where
  block : Block
  record : FaultRecord
deriving DecidableEq, Repr

/-- The fault unit (R141, R142, R144): the kind of code k is bit k−1. -/
structure FaultUnit where
  pending : BitVec 11
  mask : BitVec 11
  capture : Option Capture
  /-- The fault records handed over and not yet taken, in the order raised; none between two commands (R140; the model's own, log 25). -/
  raised : List RaisedFault
deriving DecidableEq, Repr

/-- The clamp flags of a take (R84). -/
structure ClampFlags where
  priority : Bool
  duration : Bool
  offset : Bool
  budget : Bool
deriving DecidableEq, Repr

/-- A firing report (R122). -/
structure FiringReport where
  slot : Slot
  tag : Byte
  cylinder : Cylinder
  kind : Kind
  carried : Bool
  cycle : Word16
  outcome : Outcome
  shortened : Bool
  noRise : Bool
  /-- The actual start, when the pulse started. -/
  start : Option Time
  /-- The microseconds driven. -/
  duration : Nat
  /-- The repeat remaining. -/
  repeats : Nat
  freed : Bool
deriving DecidableEq, Repr

/-- An entry of an answer log (sections 8.4, 9.8). -/
inductive LogEntry where
  | placed (slot : Slot) (tag : Byte) (flags : ClampFlags) (disabled : Bool) (displaced : Nat) (duration : Nat)
  | amended (slot : Slot) (tag : Byte) (flags : ClampFlags) (displaced : Nat) (duration : Nat)
  | withdrawn (slot : Slot) (tag : Byte)
  | refused (command : StagedCommand) (slot : Option Byte) (tag : Byte) (reason : Reason) (flags : ClampFlags)
      (blocking : Option Slot)
  | displaced (slot : Slot) (tag : Byte) (cylinder : Cylinder) (kind : Kind) (carried : Bool) (cause : DisplaceCause)
  | firing (r : FiringReport)
  | mark (unit : MarkIndex) (cylinder : Cylinder) (cycle : Word16) (time : Time)
  | fault (r : FaultRecord)
deriving DecidableEq, Repr

/-- A response of 12 bytes: status, echo of the command code, data and frame check (R156). -/
structure Response where
  status : Status
  echo : Byte
  data : Data
  check : Byte
deriving DecidableEq, Repr

/-- What each link has: its answer log, its sticky flags, its notice enables, its pending response, and whether the port
ignores the link because SEL_N was low at the release of RESET_N (R147, R150, R152, R155, R156). Flag n of the table of section
8.5 is bit n, LOG bit 0. -/
structure LinkPort where
  /-- The answer log, oldest first. -/
  log : List LogEntry
  sticky : BitVec 11
  enables : BitVec 11
  response : Response
  ignoring : Bool
deriving DecidableEq, Repr

/-! ### The engine configuration (chapter 10) -/

/-- A kind window, edges included (R83). -/
structure Window where
  lo : Int
  hi : Int
deriving DecidableEq, Repr

/-- The configuration items (R165). -/
structure EngineConfig where
  cylinderCount : Nat
  firingOrder : Vector (Fin 9) 8
  bankMap : Byte
  tdc1 : Nat
  camLo : Nat
  camHi : Nat
  lead : Nat
  speed : Nat
  minDwell : Nat
  bankRecovery : Nat
  maxSlip : Nat
  peakDeadline : Nat
  stallTimeout : Nat
  preWindow : Window
  mainWindow : Window
  afterWindow : Window
  lateWindow : Window
  cap : Nat
  carryLimit : Nat
deriving DecidableEq, Repr

/-- The derived values of R26 that do not stand in the cylinder status table: the configured cylinders in order of
firing position, the placement period Pw, the dwell span and the recovery span. -/
structure Geometry where
  order : List Cylinder
  pw : Nat
  dwellSpan : Nat
  recoverySpan : Nat
deriving DecidableEq, Repr

/-- The engine configuration: items, valid flag and derived values (R26, R165). -/
structure Engine where
  config : EngineConfig
  valid : Bool
  /-- The derived values; absent until a commit and after an accepted write (R26). -/
  geometry : Option Geometry
deriving DecidableEq, Repr

/-! ### The whole state -/

/-- The part, and the queue of the commands that wait, first in, first out. -/
structure State where
  timeBase : Time
  clock : Clock
  marks : Eight (Option MarkUnit)
  pool : Pool
  table : Eight CylinderStatus
  staging : Staging
  limits : Limits
  drivers : Drivers
  faults : FaultUnit
  links : PerLink LinkPort
  engine : Engine
  pending : List Instr
deriving DecidableEq, Repr

/-- The reasons a step could stop with a fault. There is none: the spec names no event that stops the part, and its own
faults (R140) are latched in the state. -/
inductive Fault where
deriving DecidableEq, Repr

/-- The reasons a step is refused. -/
inductive Refusal where
  /-- Raised by `exec` alone, for a command with no meaning yet; safe. No arm raises it. -/
  | notModelled (mnemonic : String)
deriving DecidableEq, Repr

/-! ### The state after a power-on reset -/

namespace State

/-- The angle clock after a power-on reset (R18). -/
def resetClock : Clock :=
  { sync := .stopped, lastTooth := 0, period := none, normalSeen := false, tooth := 0, revolution := 0, lastAngle := 0,
    cycle := 0, cam := { seen := false, good := false, opposite := false, verdict := false }, stall := none }

/-- The timeline after a power-on reset (R55). -/
def resetPool : Pool :=
  { free := allSlots, lists := Eight.all [], quarantine := [] }

/-- An entry of the cylinder status table after a power-on reset (R61). -/
def resetCylinder : CylinderStatus :=
  { bank := none, tdc := 0, released := 0, fired := 0, lastFired := 0, carry := none, carryCount := 0, streak := 0 }

/-- A request port after a power-on reset (R76). -/
def resetRequestPort : RequestPort := { state := .quiet, queue := [], watermark := 8 }

/-- The limit set after a power-on reset (R125). -/
def resetLimits : Limits :=
  { overspeed := 2800, budget := 6000, fuelCeiling := 12, thermalCeiling := 6, reserve := 6, enables := 0xFF,
    overspeedActive := false }

/-- A bank driver after a power-on reset (R124), its STAGE_FAULT line negated (DESIGN CHOICE, log 14). -/
def resetBank : BankDriver := { state := .idle, waiting := [], stageFault := false }

/-- The fault unit after a power-on reset (R146). -/
def resetFaults : FaultUnit := { pending := 0, mask := 0, capture := none, raised := [] }

/-- The pending response after a power-on reset (R156); A5h is the frame check of eleven 00h bytes (R157). -/
def resetResponse : Response := { status := .none, echo := 0, data := 0, check := 0xA5 }

/-- A link after a power-on reset (R149, R154, R156), its SEL_N line high (DESIGN CHOICE, log 14). -/
def resetLink : LinkPort :=
  { log := [], sticky := 0, enables := 0, response := resetResponse, ignoring := false }

/-- The default configuration items (R165). -/
def resetConfig : EngineConfig :=
  { cylinderCount := 6, firingOrder := #v[1, 5, 3, 6, 2, 4, 0, 0], bankMap := 0x38, tdc1 := 1088, camLo := 10560,
    camHi := 11039, lead := 384, speed := 3000, minDwell := 150, bankRecovery := 40, maxSlip := 100, peakDeadline := 300,
    stallTimeout := 200, preWindow := { lo := -640, hi := -32 }, mainWindow := { lo := -400, hi := 320 },
    afterWindow := { lo := 0, hi := 640 }, lateWindow := { lo := 640, hi := 2400 }, cap := 5, carryLimit := 3 }

/-- The part right after a power-on reset with every input line at rest, no command waiting (R18, R19, R24, R26, R55, R61, R76, R124,
R125, R146, R149, R154, R156, R165). -/
def reset : State :=
  { timeBase := 0, clock := resetClock, marks := Eight.all none, pool := resetPool,
    table := Eight.all resetCylinder,
    staging := { fuel := resetRequestPort, thermal := resetRequestPort, fuelRun := 0 }, limits := resetLimits,
    drivers := { bankA := resetBank, bankB := resetBank, fire := 0 }, faults := resetFaults,
    links := { fuel := resetLink, thermal := resetLink, supervisor := resetLink },
    engine := { config := resetConfig, valid := false, geometry := none }, pending := [] }

end State

end Sys2Proof.Machine
end

