-- ==== Sys2Proof/Machine/Containers.lean ====
section
/-! DEFINITION. Reading and writing the containers of the state: by link, by cylinder or mark unit, by bank, by request link;
and the named update of each part of the state. -/

namespace Sys2Proof.Machine

/-! ### Containers -/

/-- The value of a link. -/
def PerLink.get {α : Type} (v : PerLink α) : Link → α
  | .fuel => v.fuel
  | .thermal => v.thermal
  | .supervisor => v.supervisor

/-- The values with that of one link replaced. -/
def PerLink.set {α : Type} (v : PerLink α) (l : Link) (a : α) : PerLink α :=
  match l with
  | .fuel => { v with fuel := a }
  | .thermal => { v with thermal := a }
  | .supervisor => { v with supervisor := a }

/-- The value at an index. -/
def Eight.get {α : Type} (v : Eight α) : Fin 8 → α
  | 0 => v.v0
  | 1 => v.v1
  | 2 => v.v2
  | 3 => v.v3
  | 4 => v.v4
  | 5 => v.v5
  | 6 => v.v6
  | 7 => v.v7

/-- The values with that at one index replaced. -/
def Eight.set {α : Type} (v : Eight α) (i : Fin 8) (a : α) : Eight α :=
  match i with
  | 0 => { v with v0 := a }
  | 1 => { v with v1 := a }
  | 2 => { v with v2 := a }
  | 3 => { v with v3 := a }
  | 4 => { v with v4 := a }
  | 5 => { v with v5 := a }
  | 6 => { v with v6 := a }
  | 7 => { v with v7 := a }

/-- A function of the index and the value applied at every index. -/
def Eight.map {α β : Type} (v : Eight α) (f : Fin 8 → α → β) : Eight β :=
  { v0 := f 0 v.v0, v1 := f 1 v.v1, v2 := f 2 v.v2, v3 := f 3 v.v3, v4 := f 4 v.v4, v5 := f 5 v.v5, v6 := f 6 v.v6,
    v7 := f 7 v.v7 }

/-- The values in increasing index. -/
def Eight.toList {α : Type} (v : Eight α) : List α :=
  [v.v0, v.v1, v.v2, v.v3, v.v4, v.v5, v.v6, v.v7]

/-- The driver of a bank. -/
def Drivers.get (d : Drivers) : Bank → BankDriver
  | .bankA => d.bankA
  | .bankB => d.bankB

/-- The drivers with that of one bank replaced. -/
def Drivers.set (d : Drivers) (b : Bank) (x : BankDriver) : Drivers :=
  match b with
  | .bankA => { d with bankA := x }
  | .bankB => { d with bankB := x }

/-- The port of a request link. -/
def Staging.get (g : Staging) : Owner → RequestPort
  | .fuel => g.fuel
  | .thermal => g.thermal

/-- The staging with the port of one request link replaced. -/
def Staging.set (g : Staging) (o : Owner) (p : RequestPort) : Staging :=
  match o with
  | .fuel => { g with fuel := p }
  | .thermal => { g with thermal := p }

/-- The link of a request link's name (section 4.4 of the introduction). -/
def Owner.link : Owner → Link
  | .fuel => .fuel
  | .thermal => .thermal

/-- The request link a link is; none for the supervisor link. -/
def requestLink : Link → Option Owner
  | .fuel => some .fuel
  | .thermal => some .thermal
  | .supervisor => none

/-! ### Named updates of the state -/

namespace State

/-- The state with another time base. -/
def setTimeBase (s : State) (x : Time) : State := { s with timeBase := x }
/-- The state with another angle clock. -/
def setClock (s : State) (x : Clock) : State := { s with clock := x }
/-- The state with other mark units. -/
def setMarks (s : State) (x : Eight (Option MarkUnit)) : State := { s with marks := x }
/-- The state with another slot pool. -/
def setPool (s : State) (x : Pool) : State := { s with pool := x }
/-- The state with another cylinder status table. -/
def setTable (s : State) (x : Eight CylinderStatus) : State := { s with table := x }
/-- The state with other staging queues and ports. -/
def setStaging (s : State) (x : Staging) : State := { s with staging := x }
/-- The state with another limit set. -/
def setLimits (s : State) (x : Limits) : State := { s with limits := x }
/-- The state with other bank drivers and lines. -/
def setDrivers (s : State) (x : Drivers) : State := { s with drivers := x }
/-- The state with another fault unit. -/
def setFaults (s : State) (x : FaultUnit) : State := { s with faults := x }
/-- The state with other link ports. -/
def setLinks (s : State) (x : PerLink LinkPort) : State := { s with links := x }
/-- The state with another engine configuration. -/
def setEngine (s : State) (x : Engine) : State := { s with engine := x }
/-- The state with another queue of waiting commands. -/
def setPending (s : State) (x : List Instr) : State := { s with pending := x }

/-- The state with one link's port replaced. -/
def setLink (s : State) (l : Link) (x : LinkPort) : State := s.setLinks (s.links.set l x)
/-- The state with one cylinder's status entry replaced. -/
def setCylinder (s : State) (c : Cylinder) (x : CylinderStatus) : State := s.setTable (s.table.set c x)
/-- The state with one bank's driver replaced. -/
def setBank (s : State) (b : Bank) (x : BankDriver) : State := s.setDrivers (s.drivers.set b x)
/-- The state with one request port replaced. -/
def setPort (s : State) (o : Owner) (x : RequestPort) : State := s.setStaging (s.staging.set o x)

end State

end Sys2Proof.Machine
end

