-- ==== Sys2Proof/Machine/Flags.lean ====
section
/-! DEFINITION. Event flags and notice lines (section 8.5): which bit a flag is, which links have it, the level flags as functions of
their conditions, the sticky flags as stored bits. -/

namespace Sys2Proof.Machine

/-- The bit of a flag, in the order of the table of section 8.5 (R161). -/
def Flag.bit : Flag → Nat
  | .log => 0 | .staged => 1 | .fault => 2 | .logLost => 3 | .mark => 4 | .sync => 5 | .clamp => 6 | .displaced => 7
  | .poolLow => 8 | .carry => 9 | .capture => 10

/-- A set that holds one flag. -/
def Flag.mask (f : Flag) : BitVec 11 := 1#11 <<< f.bit

/-- The flags a link has (section 8.5). -/
def linkFlags : Link → BitVec 11
  | .fuel => 0b01111111011#11
  | .thermal => 0b00111111011#11
  | .supervisor => 0b10000111101#11

/-- The sticky flags among all flags (section 8.5). -/
def stickyFlags : BitVec 11 := 0b11111111000#11

/-- The set of one bit, or the empty set. -/
def flagIf (c : Bool) (f : Flag) : BitVec 11 := if c then f.mask else 0

namespace State

/-- The number of entries in a request link's staging queue (R64). -/
def stagingCount (s : State) (o : Owner) : Nat := (s.staging.get o).queue.length

/-- The LOG level flag of a link (R147). -/
def logFlag (s : State) (l : Link) : Bool := (s.links.get l).log ≠ []

/-- The STAGED level flag of a link; the supervisor link has none (R70). -/
def stagedFlag (s : State) (l : Link) : Bool :=
  match requestLink l with
  | some o => decide ((s.staging.get o).watermark ≤ s.stagingCount o)
  | none => false

/-- The FAULT level flag, of the supervisor link alone: a kind pending and unmasked (R141). -/
def faultFlag (s : State) (l : Link) : Bool :=
  l == .supervisor && s.faults.pending &&& ~~~s.faults.mask != 0

/-- The level flags of a link (R151). -/
def levelFlags (s : State) (l : Link) : BitVec 11 :=
  flagIf (s.logFlag l) .log ||| flagIf (s.stagedFlag l) .staged ||| flagIf (s.faultFlag l) .fault

/-- All the flags of a link: its sticky flags as raised and its level flags as their conditions stand. -/
def flags (s : State) (l : Link) : BitVec 11 := (s.links.get l).sticky ||| s.levelFlags l

/-- Whether a link's notice line is asserted (R152). -/
def noticeLine (s : State) (l : Link) : Bool := s.flags l &&& (s.links.get l).enables != 0

/-- A sticky flag raised on a link (R150). -/
def raiseFlag (s : State) (l : Link) (f : Flag) : State :=
  s.setLink l { s.links.get l with sticky := (s.links.get l).sticky ||| f.mask }

/-- The SYNC flag raised on all three links (R10). -/
def raiseSync (s : State) : State :=
  ((s.raiseFlag .fuel .sync).raiseFlag .thermal .sync).raiseFlag .supervisor .sync

/-- The sticky flags of a link written with 1 cleared (R150). -/
def clearFlags (s : State) (l : Link) (written : BitVec 11) : State :=
  s.setLink l { s.links.get l with sticky := (s.links.get l).sticky &&& ~~~(written &&& stickyFlags) }

end State

end Sys2Proof.Machine
end

