-- ==== Sys2Proof/Machine/Arith.lean ====
section
/-! DEFINITION. Angle and time arithmetic (chapter 2): scan intervals, spans, conflict, release point, planned start, firing
cycle, speed, budget at release, and the tests of times. -/

namespace Sys2Proof.Machine

/-! ### Times (R25) -/

/-- How far a time has been passed: (now − X) mod 2^32 (R25). -/
def passedBy (now x : Time) : Nat := (now - x).toNat

/-- Whether a time has been reached (R25). -/
def reached (now x : Time) : Bool := decide (passedBy now x < 2 ^ 31)

/-- How many microseconds from now a time is reached: 0 once it has been. -/
def dueIn (now x : Time) : Nat := if reached now x then 0 else (x - now).toNat

/-- The signed difference of a time from the current time base, by which waiting lists are ordered (R110). -/
def relativeTo (now x : Time) : Int := (x - now).toInt

/-- A number of microseconds after a time. -/
def after (t : Time) (us : Nat) : Time := t + BitVec.ofNat 32 us

/-! ### Angles (R11, R28, R29) -/

/-- An angle taken modulo one engine cycle. -/
def modCycle (x : Int) : Nat := (x % (Config.cycleSteps : Int)).toNat

/-- (a − b) mod 11,520. -/
def angleFrom (a b : Nat) : Nat := modCycle ((a : Int) - (b : Int))

/-- Whether an angle lies in the scan interval (old, new] (R29). -/
def inScan (old new x : Nat) : Bool :=
  decide (1 ≤ angleFrom x old) && decide (angleFrom x old ≤ angleFrom new old)

/-- Whether a cycle angle lies in the cam window (R11). -/
def inCamWindow (lo hi x : Nat) : Bool := decide (angleFrom x lo ≤ angleFrom hi lo)

/-- The start angle of a pulse: (TDC + offset) mod 11,520 (R28). -/
def startAngle (tdc : Nat) (offset : Int) : Nat := modCycle ((tdc : Int) + offset)

/-- The firing boundary of a cylinder: (TDC + 5,760) mod 11,520 (R28). -/
def boundaryOf (tdc : Nat) : Nat := modCycle ((tdc : Int) + (Config.revolutionSteps : Int))

/-- The TDC of the cylinder at a firing position (R27). -/
def tdcAt (tdc1 position n : Nat) : Nat := (tdc1 + position * Config.cycleSteps / n) % Config.cycleSteps

/-! ### Spans and conflict (R30, R31, R32) -/

/-- The placement period: floor(1,000,000 / Lp) (R30). -/
def placementPeriod (speed : Nat) : Nat := 1000000 / speed

/-- The span of a duration: ceil(d × 96 / Pw) (R30). -/
def span (pw d : Nat) : Nat := (d * Config.pitchSteps + pw - 1) / pw

/-- Whether two pulses conflict under a gap (R32). -/
def conflicts (s1 n1 s2 n2 gap : Nat) : Bool :=
  decide (angleFrom s2 s1 < n1 + gap) || decide (angleFrom s1 s2 < n2 + gap)

/-! ### Release and planned start (R33, R34) -/

/-- The release point of a start angle (R33). -/
def releasePoint (start lead : Nat) : Nat := angleFrom start lead

/-- The carry-over decision point of a cylinder (R103). -/
def decisionPoint (tdc : Nat) (mainLo : Int) (lead : Nat) : Nat := modCycle ((tdc : Int) + mainLo - (lead : Int))

/-- The planned start from a tooth's angle, time and period (R34). -/
def plannedStart (tt : Time) (start toothAngle period : Nat) : Time :=
  after tt ((angleFrom start toothAngle * period + 48) / 96)

/-! ### Expected firing cycle (R35) -/

/-- The firing cycle of a start angle, from the last tooth angle and the cycle counter (R35). -/
def firingCycle (start lastAngle lead cycle : Nat) : Nat :=
  let d := angleFrom start lastAngle
  let w := if Config.cycleSteps ≤ lastAngle + d then 1 else 0
  if lead < d then (cycle + w) % 65536 else (cycle + 1 + w) % 65536

/-- What a cycle stamp is judged to be (R35): none to proceed, else the reason of the refusal. -/
def stampVerdict (stamp fires : Nat) : Option Reason :=
  if stamp = fires % 256 then none
  else if stamp = (fires + 255) % 256 then some .stale
  else some .early

/-! ### Speed and budget (R36, R37) -/

/-- The engine speed of a tooth period (R36). -/
def rpmOf (period : Nat) : Nat := 1000000 / period

/-- The engine speed: floor(1,000,000 / P), 0 while P is absent (R2, R3). -/
def Clock.rpm (c : Clock) : Nat :=
  match c.period with
  | some p => rpmOf p
  | none => 0

/-- The budget at release: the released duration and whether it is budget-shortened, or none when the record is
BUDGET_SKIPPED (R37). -/
def budgetAtRelease (budget total d : Nat) : Option (Nat × Bool) :=
  if total + d ≤ budget then some (d, false)
  else if total + Config.minDuration ≤ budget then some (budget - total, true)
  else none

/-! ### Interpolation (R16) -/

/-- The interpolated angle at a time (R16). The period is present in GAP_FOUND and SYNCED, the only states that read it (DESIGN CHOICE, log 18). -/
def Clock.interpolated (c : Clock) (t : Time) : Nat :=
  let limit := if c.tooth = Config.lastToothIndex then 287 else 95
  match c.period with
  | some p => c.lastAngle + min limit (passedBy t c.lastTooth * 96 / p)
  | none => c.lastAngle

end Sys2Proof.Machine
end

