-- ==== Sys2Proof/Machine/Operands.lean ====
section
/-! DEFINITION. The codes of operands, response items and log entries (R161, R162, section 9.8), the values of configuration
items as written and read (R165, R167, R169), and the packing of items into bytes. -/

namespace Sys2Proof.Machine

/-! ### Packing bytes (R161, R162) -/

/-- A number in one byte. -/
def byte (n : Nat) : Byte := BitVec.ofNat 8 n

/-- A number in two bytes, most significant first. -/
def bytes2 (n : Nat) : List Byte := [byte (n / 256), byte n]

/-- A signed number of steps in two bytes of two's complement. -/
def signed2 (x : Int) : List Byte := bytes2 (BitVec.ofInt 16 x).toNat

/-- A number in four bytes, most significant first. -/
def bytes4 (n : Nat) : List Byte := bytes2 (n / 65536) ++ bytes2 n

/-- A number in five bytes, most significant first. -/
def bytes5 (n : Nat) : List Byte := byte (n / 4294967296) :: bytes4 n

/-- Nine bytes of response data or of a log entry; bytes not given read 0 (R162, R164). -/
def dataOf (bs : List Byte) : Data :=
  [0, 1, 2, 3, 4, 5, 6, 7, 8].foldl (fun (acc : Data) i => (acc <<< 8) ||| (bs.getD i 0#8).setWidth 72) 0#72

/-- Byte `i` of nine bytes, byte 0 the most significant. -/
def dataByte (d : Data) (i : Nat) : Byte := d.extractLsb' (64 - 8 * i) 8

/-- The number in bytes `i` and `i + 1` of nine. -/
def dataWord (d : Data) (i : Nat) : Nat := (dataByte d i).toNat * 256 + (dataByte d (i + 1)).toNat

/-- The signed number in bytes `i` and `i + 1` of nine. -/
def dataSigned (d : Data) (i : Nat) : Int := (BitVec.ofNat 16 (dataWord d i)).toInt

/-- A yes/no item at bit `k` of a byte (R162). -/
def bitAt (c : Bool) (k : Nat) : Nat := if c then 2 ^ k else 0

/-! ### Codes of operands (R161) -/

/-- The cylinder bit of a mask of cylinders (R161). -/
def inMask (mask : Byte) (c : Cylinder) : Bool := mask.getLsbD c.val

/-- The cylinder of a number, 1 to 8. -/
def cylinderOf (n : Nat) : Option Cylinder := if h : 1 ≤ n ∧ n ≤ 8 then some ⟨n - 1, by omega⟩ else none

/-- The slot of a number; none above 39. -/
def slotOf (n : Nat) : Option Slot := if h : n < 40 then some ⟨n, h⟩ else none

/-- The mark unit of a number; none above 7. -/
def markOf (n : Nat) : Option MarkIndex := if h : n < 8 then some ⟨n, h⟩ else none

/-- The kind a code names (R163); none for a code that names no kind. -/
def kindOf (code : BitVec 4) : Option Kind :=
  if code = 1 then some .pre else if code = 2 then some .main else if code = 3 then some .after
  else if code = 4 then some .late else none

/-- The mode of a SET_MARK: ONCE 1, EVERY 2 (R20, R161; DEDUCED, log 16). -/
def markModeOf (code : Byte) : Option MarkMode :=
  if code = 1 then some .once else if code = 2 then some .every else none

/-- What the state field of SET_PORT_STATE names: none for any other code, `some none` for KEEP (R63, R161). -/
def portStateOf (code : Byte) : Option (Option PortState) :=
  if code = 1 then some (some .quiet) else if code = 2 then some (some .hold) else if code = 3 then some (some .live)
  else if code = 4 then some none else none

/-- The target of a RESET_PORT: FUEL 1, THERMAL 2 (R138, R161; DEDUCED, log 16). -/
def targetOf (code : Byte) : Option Owner :=
  if code = 1 then some .fuel else if code = 2 then some .thermal else none

/-- The parts of READ_STATUS: EVENTS 1, PORT 2, LIMITS 3 (R153, R161). -/
inductive StatusPart where
  | events
  | port
  | limits
deriving DecidableEq, Repr

/-- The part a READ_STATUS names. -/
def statusPartOf (code : Byte) : Option StatusPart :=
  if code = 1 then some .events else if code = 2 then some .port else if code = 3 then some .limits else none

/-- The parts of READ_RECORD: PLACED 1, TIMING 2 (R57, R161). -/
inductive RecordPart where
  | placed
  | timing
deriving DecidableEq, Repr

/-- The part a READ_RECORD names. -/
def recordPartOf (code : Byte) : Option RecordPart :=
  if code = 1 then some .placed else if code = 2 then some .timing else none

/-- The parts of READ_CYLINDER: TOTALS 1, CARRY 2 (R58, R161; DEDUCED, log 16). -/
inductive CylinderPart where
  | totals
  | carry
deriving DecidableEq, Repr

/-- The part a READ_CYLINDER names. -/
def cylinderPartOf (code : Byte) : Option CylinderPart :=
  if code = 1 then some .totals else if code = 2 then some .carry else none

/-- The items of SET_LIMIT, codes 1 to 5 (R126, R162). -/
inductive LimitItem where
  | overspeedLimit
  | budget
  | fuelCeiling
  | thermalCeiling
  | reserve
deriving DecidableEq, Repr

/-- The item a SET_LIMIT names. -/
def limitItemOf (code : Byte) : Option LimitItem :=
  if code = 1 then some .overspeedLimit else if code = 2 then some .budget else if code = 3 then some .fuelCeiling
  else if code = 4 then some .thermalCeiling else if code = 5 then some .reserve else none

/-! ### Codes of response and log items (R162, sections 9.4 and 9.8) -/

/-- The status code (section 9.4). -/
def Status.code : Status → Byte
  | .none => 0x00 | .ok => 0x01 | .clamped => 0x02 | .empty => 0x03 | .badCheck => 0x10 | .frameLength => 0x11
  | .badCommand => 0x12 | .notPermitted => 0x13 | .portQuiet => 0x14 | .stagingFull => 0x15 | .badArgument => 0x20
  | .noMarkFree => 0x21 | .notOwner => 0x22 | .noSuchRecord => 0x23 | .tooLate => 0x24 | .engineRunning => 0x25
  | .timelineBusy => 0x26 | .configInconsistent => 0x27

/-- The code of a sync state (R162). -/
def SyncState.code : SyncState → Nat
  | .stopped => 0 | .hunt => 1 | .gapFound => 2 | .synced => 3

/-- The code of a record's state (R162). -/
def Phase.code : Phase → Nat
  | .pending => 1 | .released _ _ => 2 | .firing _ _ => 3

/-- The code of an owner (R162). -/
def Owner.code : Owner → Nat
  | .fuel => 1 | .thermal => 2

/-- The code of a port state (R162). -/
def PortState.code : PortState → Nat
  | .quiet => 1 | .hold => 2 | .live => 3

/-- The code of a bank, 0 for none (R162). -/
def bankCode : Option Bank → Nat
  | none => 0 | some .bankA => 1 | some .bankB => 2

/-- The code of a kind (R162, R163). -/
def Kind.code : Kind → Nat
  | .pre => 1 | .main => 2 | .after => 3 | .late => 4

/-- The code of a SET_LIMIT item (R162). -/
def LimitItem.code : LimitItem → Nat
  | .overspeedLimit => 1 | .budget => 2 | .fuelCeiling => 3 | .thermalCeiling => 4 | .reserve => 5

/-- The code of a fault kind (section 9.8). -/
def FaultKind.code : FaultKind → Nat
  | .lateStart => 1 | .slipSkip => 2 | .camFault => 3 | .noRise => 4 | .dryCylinder => 5 | .syncError => 6
  | .phaseError => 7 | .integrity => 8 | .stageFault => 9 | .overspeed => 10 | .injectorWatch => 11

/-- The severity of a fault kind (section 8.1). -/
def FaultKind.severity : FaultKind → Nat
  | .lateStart | .slipSkip => 1
  | .camFault | .noRise => 2
  | .dryCylinder | .syncError | .phaseError | .integrity | .stageFault => 3
  | .overspeed | .injectorWatch => 4

/-- The bit of a fault kind in a mask of fault kinds (R161). -/
def FaultKind.mask (k : FaultKind) : BitVec 11 := 1#11 <<< (k.code - 1)

/-- The code of a refusal reason (section 9.8). -/
def Reason.code : Reason → Nat
  | .notReady => 1 | .badCylinder => 2 | .badKind => 3 | .badDuration => 4 | .notSynced => 5 | .stale => 6 | .early => 7
  | .poolEmpty => 8 | .poolLow => 9 | .conflict => 10 | .cylinderFull => 11 | .budget => 12 | .badArgument => 13
  | .noSuchRecord => 14 | .tooLate => 15

/-- The code of a displacement cause (section 9.8). -/
def DisplaceCause.code : DisplaceCause → Nat
  | .conflict => 1 | .capacity => 2 | .budget => 3 | .integrity => 4 | .supervisor => 5

/-- The code of an outcome (section 9.8). -/
def Outcome.code : Outcome → Nat
  | .started .fired => 0 | .started .late => 1 | .started .slipped => 2 | .truncatedStage => 3 | .truncatedCut => 4
  | .skippedSlip => 5 | .budgetSkipped => 6 | .suppressed .disabled => 7 | .suppressed .overspeed => 8
  | .suppressed .stage => 9 | .suppressed .cut => 10

/-- The code of the command a REFUSED entry names (section 9.8). -/
def StagedCommand.code : StagedCommand → Nat
  | .place => 1 | .amend => 2 | .withdraw => 3

/-- A cylinder item: its number, 0 for none (R161). -/
def cylinderItem : Option Cylinder → Nat
  | some c => cylinderNumber c
  | none => 0

/-- A slot item: FFh for none (R161). -/
def slotItem : Option Slot → Nat
  | some k => k.val
  | none => 255

/-- The four clamp flags in bits 3 to 0 (section 9.8). -/
def ClampFlags.code (f : ClampFlags) : Nat :=
  bitAt f.priority 0 + bitAt f.duration 1 + bitAt f.offset 2 + bitAt f.budget 3

/-- Whether any clamp flag is set (R84). -/
def ClampFlags.any (f : ClampFlags) : Bool := f.priority || f.duration || f.offset || f.budget

/-- No clamp flag. -/
def noClamps : ClampFlags := { priority := false, duration := false, offset := false, budget := false }

/-! ### Log entries as nine bytes (section 9.8, R164) -/

/-- A firing report in its shape (section 9.8). -/
def FiringReport.data (r : FiringReport) : Data :=
  dataOf <|
    [byte (128 + r.outcome.code * 8 + r.cylinder.val),
     byte (r.slot.val + bitAt r.carried 6 + bitAt r.freed 7),
     r.tag,
     byte ((r.kind.code - 1) + bitAt r.shortened 2 + bitAt r.noRise 3 + (r.duration / 256 % 16) * 16),
     byte r.duration,
     byte r.repeats,
     r.cycle.setWidth 8]
    ++ bytes2 (match r.start with | some t => t.toNat | none => 0)

/-- A log entry in the shape of its kind (section 9.8, R164). -/
def LogEntry.data : LogEntry → Data
  | .placed slot tag flags disabled count duration =>
      dataOf ([byte (1 * 16), byte slot.val, tag, byte (flags.code + bitAt disabled 4), byte count] ++ bytes2 duration)
  | .amended slot tag flags count duration =>
      dataOf ([byte (2 * 16), byte slot.val, tag, byte flags.code, byte count] ++ bytes2 duration)
  | .withdrawn slot tag => dataOf [byte (3 * 16), byte slot.val, tag]
  | .refused command slot tag reason flags blocking =>
      dataOf [byte (4 * 16 + reason.code), slot.getD 0xFF#8, tag, byte (flags.code + command.code * 32),
        byte (slotItem blocking)]
  | .displaced slot tag cylinder kind carried cause =>
      dataOf [byte (5 * 16 + cause.code), byte slot.val, tag,
        byte (cylinderNumber cylinder + (kind.code - 1) * 16 + bitAt carried 6)]
  | .firing r => r.data
  | .mark unit cylinder cycle time =>
      dataOf ([byte (6 * 16 + unit.val), byte (cylinderNumber cylinder)] ++ bytes2 cycle.toNat ++ bytes4 time.toNat)
  | .fault r =>
      dataOf ([byte (7 * 16 + r.kind.code), byte (cylinderItem r.cylinder * 16 + r.kind.severity),
        byte (slotItem r.slot)] ++ bytes2 r.cycle.toNat ++ bytes4 r.time.toNat)

/-! ### Configuration items (R165, R167, R169) -/

/-- A value within its range, or none (R167). -/
def inRange (lo hi n : Nat) : Option Nat := if lo ≤ n ∧ n ≤ hi then some n else none

/-- The two edges of a kind window as written, each −5,760 to +5,759, or none (R165). -/
def windowOf (value : Data) : Option Window :=
  let lo := dataSigned value 0
  let hi := dataSigned value 2
  if -5760 ≤ lo ∧ lo ≤ 5759 ∧ -5760 ≤ hi ∧ hi ≤ 5759 then some { lo := lo, hi := hi } else none

/-- An entry of the firing order as written, 0 to 8, or none (R165). -/
def orderEntry (b : Byte) : Option (Fin 9) := if h : b.toNat < 9 then some ⟨b.toNat, h⟩ else none

/-- The eight entries of the firing order as written, or none when one is out of range (R165). -/
def orderOf (value : Data) : Option (Vector (Fin 9) 8) := do
  let e0 ← orderEntry (dataByte value 0)
  let e1 ← orderEntry (dataByte value 1)
  let e2 ← orderEntry (dataByte value 2)
  let e3 ← orderEntry (dataByte value 3)
  let e4 ← orderEntry (dataByte value 4)
  let e5 ← orderEntry (dataByte value 5)
  let e6 ← orderEntry (dataByte value 6)
  let e7 ← orderEntry (dataByte value 7)
  return #v[e0, e1, e2, e3, e4, e5, e6, e7]

/-- The configuration with one item replaced by a written value; none when the item code is not 1 to 18 or a value lies
outside its range (R165, R167). -/
def EngineConfig.write (c : EngineConfig) (item : Nat) (value : Data) : Option EngineConfig :=
  match item with
  | 1 => if (dataByte value 0).toNat ∈ [4, 6, 8] then some { c with cylinderCount := (dataByte value 0).toNat } else none
  | 2 => (orderOf value).map fun o => { c with firingOrder := o }
  | 3 => some { c with bankMap := dataByte value 0 }
  | 4 => (inRange 0 11519 (dataWord value 0)).map fun n => { c with tdc1 := n }
  | 5 => (inRange 0 11519 (dataWord value 0)).bind fun lo =>
      (inRange 0 11519 (dataWord value 2)).map fun hi => { c with camLo := lo, camHi := hi }
  | 6 => (inRange 288 960 (dataWord value 0)).map fun n => { c with lead := n }
  | 7 => (inRange 1000 4000 (dataWord value 0)).map fun n => { c with speed := n }
  | 8 => (inRange 20 2000 (dataWord value 0)).map fun n => { c with minDwell := n }
  | 9 => (inRange 10 500 (dataWord value 0)).map fun n => { c with bankRecovery := n }
  | 10 => (inRange 0 500 (dataWord value 0)).map fun n => { c with maxSlip := n }
  | 11 => (inRange 50 1000 (dataWord value 0)).map fun n => { c with peakDeadline := n }
  | 12 => (inRange 50 1000 (dataWord value 0)).map fun n => { c with stallTimeout := n }
  | 13 => (windowOf value).map fun w => { c with preWindow := w }
  | 14 => (windowOf value).map fun w => { c with mainWindow := w }
  | 15 => (windowOf value).map fun w => { c with afterWindow := w }
  | 16 => (windowOf value).map fun w => { c with lateWindow := w }
  | 17 => (inRange 1 6 (dataByte value 0).toNat).map fun n => { c with cap := n }
  | 18 => (inRange 0 15 (dataByte value 0).toNat).map fun n => { c with carryLimit := n }
  | _ => none

/-- A kind window in the form CONFIG_WRITE takes. -/
def Window.bytes (w : Window) : List Byte := signed2 w.lo ++ signed2 w.hi

/-- An item's value in the form CONFIG_WRITE takes; none when the item code is not 1 to 18 (R169). -/
def EngineConfig.read (c : EngineConfig) (item : Nat) : Option (List Byte) :=
  match item with
  | 1 => some [byte c.cylinderCount]
  | 2 => some (c.firingOrder.toList.map fun e => byte e.val)
  | 3 => some [c.bankMap]
  | 4 => some (bytes2 c.tdc1)
  | 5 => some (bytes2 c.camLo ++ bytes2 c.camHi)
  | 6 => some (bytes2 c.lead)
  | 7 => some (bytes2 c.speed)
  | 8 => some (bytes2 c.minDwell)
  | 9 => some (bytes2 c.bankRecovery)
  | 10 => some (bytes2 c.maxSlip)
  | 11 => some (bytes2 c.peakDeadline)
  | 12 => some (bytes2 c.stallTimeout)
  | 13 => some c.preWindow.bytes
  | 14 => some c.mainWindow.bytes
  | 15 => some c.afterWindow.bytes
  | 16 => some c.lateWindow.bytes
  | 17 => some [byte c.cap]
  | 18 => some [byte c.carryLimit]
  | _ => none

/-- The window of a kind (R83). -/
def EngineConfig.window (c : EngineConfig) : Kind → Window
  | .pre => c.preWindow
  | .main => c.mainWindow
  | .after => c.afterWindow
  | .late => c.lateWindow

end Sys2Proof.Machine
end

