-- ==== Sys2Proof/Machine/Ops.lean ====
section
/-! DEFINITION. Shared operations: answer logs and responses, the slot pool and its lists, the check bit, freeing and returning to
PENDING, waiting lists, retirement with its firing report, and the suppression of a RELEASED record. -/

namespace Sys2Proof.Machine

/-! ### Answer logs and responses -/

namespace State

/-- An entry appended to a link's answer log; to a full log the entry is lost and LOG_LOST is raised (R147). -/
def append (s : State) (l : Link) (e : LogEntry) : State :=
  if (s.links.get l).log.length < Config.logDepth then
    s.setLink l { s.links.get l with log := (s.links.get l).log ++ [e] }
  else s.raiseFlag l .logLost

end State

/-- A response with its frame check (R156, R157). -/
def formResponse (status : Status) (echo : Byte) (data : Data) : Response :=
  { status := status, echo := echo, data := data, check := frameCheck (status.code ++ echo ++ data) }

namespace State

/-- The pending response of a link replaced (R156). -/
def respond (s : State) (l : Link) (status : Status) (echo : Byte) (data : Data) : State :=
  s.setLink l { s.links.get l with response := formResponse status echo data }

end State

/-! ### The SDO lines (R155) -/

/-- A number for each link, by which the free value of its SDO line is told from those of the others (log 27). -/
def linkIndex : Link → Nat
  | .fuel => 0
  | .thermal => 1
  | .supervisor => 2

/-- The 96 bits of a response in the order they are shifted out: status, echo, data, frame check (R156, section 9.1). -/
def Response.bits (r : Response) : BitVec 96 := r.status.code ++ r.echo ++ r.data ++ r.check

namespace State

/-- What a link's SDO line shows, none where it floats. `select` is none while SEL_N is high, and the number of falling edges of SCK since SEL_N
fell while it is low: the pending response is shifted out bit by bit, its first bit present from the fall of SEL_N, and after its 96 bits the
line is low (R155, section 9.1). While the port ignores the link SEL_N is low without a frame, and the line is a free value (DESIGN CHOICE,
log 27). -/
def sdo (s : State) (l : Link) (select : Option Nat) : Option Bool :=
  match select with
  | none => none
  | some n =>
    if (s.links.get l).ignoring then Config.ignoredSdo (linkIndex l) s.timeBase.toNat n
    else some ((s.links.get l).response.bits.getMsbD n)

end State

/-! ### The check bit (R46) -/

/-- The number of one bits among the `w` low bits of a number. -/
def onesIn (w n : Nat) : Nat := (List.range w).countP fun i => n.testBit i

/-- The number of one bits across the covered fields as stored (R46; the widths and codes of the store are a DESIGN CHOICE, log 8). -/
def Record.ones (r : Record) : Nat :=
  onesIn 2 r.owner.code + onesIn 8 r.tag.toNat + onesIn 1 r.carried.toNat + onesIn 4 (cylinderNumber r.cylinder)
    + onesIn 3 r.kind.code + onesIn 16 (BitVec.ofInt 16 r.offset).toNat + onesIn 14 r.start + onesIn 16 r.duration
    + onesIn 4 r.priority + onesIn 8 r.repeats + onesIn 1 r.report.toNat

/-- The check bit that makes the number of one bits even (R46). -/
def Record.parity (r : Record) : Bool := r.ones % 2 == 1

/-- The record with its check bit written anew (R46). -/
def Record.rechecked (r : Record) : Record := { r with check := r.parity }

/-- Whether the covered fields as stored agree with the stored check bit (R47). -/
def Record.intact (r : Record) : Bool := r.check == r.parity

/-! ### Reading a record -/

/-- The final mark; absent, and so no, while PENDING (R42, R52). -/
def Record.final (r : Record) : Bool :=
  match r.phase with
  | .pending => false
  | .released f _ => f.final
  | .firing f _ => f.final

/-- The budget-shortened mark; absent, and so no, while PENDING (R42). -/
def Record.shortened (r : Record) : Bool :=
  match r.phase with
  | .pending => false
  | .released f _ => f.shortened
  | .firing f _ => f.shortened

/-- Whether a record is PENDING. -/
def Record.isPending (r : Record) : Bool :=
  match r.phase with
  | .pending => true
  | _ => false

/-- Whether a record is RELEASED. -/
def Record.isReleased (r : Record) : Bool :=
  match r.phase with
  | .released _ _ => true
  | _ => false

/-- Whether a record is FIRING. -/
def Record.isFiring (r : Record) : Bool :=
  match r.phase with
  | .firing _ _ => true
  | _ => false

/-- The record marked final, when it is RELEASED or FIRING (R52). -/
def Record.markFinal (r : Record) : Record :=
  match r.phase with
  | .pending => r
  | .released f t => { r with phase := .released { f with final := true } t }
  | .firing f t => { r with phase := .firing { f with final := true } t }

/-! ### The slot pool (R38, R39, R44, R45, R47, R49, R50) -/

/-- Every record that stands in a cylinder list, cylinder 1 first, each list from head to tail. -/
def Pool.records (p : Pool) : List Record := p.lists.toList.flatten

/-- The record of a slot that stands in a cylinder list. -/
def Pool.find (p : Pool) (k : Slot) : Option Record := p.records.find? fun r => r.slot == k

/-- The record of one slot changed in its place. -/
def Pool.update (p : Pool) (k : Slot) (f : Record → Record) : Pool :=
  { p with lists := p.lists.map fun _ l => l.map fun r => if r.slot = k then f r else r }

/-- A slot taken out of its cylinder list (R45). -/
def Pool.unlink (p : Pool) (k : Slot) : Pool :=
  { p with lists := p.lists.map fun _ l => l.filter fun r => r.slot != k }

/-- A slot pushed onto the head of the free list (R39). -/
def Pool.push (p : Pool) (k : Slot) : Pool := { p with free := k :: p.free }

/-- The slot at the head of the free list removed (R39). -/
def Pool.pop (p : Pool) : Pool := { p with free := p.free.tail }

/-- A record put into a list after every record of smaller offset and before every record of larger (R44). -/
def insertByOffset (r : Record) : List Record → List Record
  | [] => [r]
  | x :: xs => if r.offset < x.offset then r :: x :: xs else x :: insertByOffset r xs

/-- A record put into its cylinder's list (R44). -/
def Pool.insert (p : Pool) (r : Record) : Pool :=
  { p with lists := p.lists.set r.cylinder (insertByOffset r (p.lists.get r.cylinder)) }

/-- An amended record moved in the list it stands in to its place by offset (R45). -/
def Pool.moveInList (p : Pool) (r : Record) : Pool :=
  { p with
    lists := p.lists.map fun _ l =>
      if l.any fun x => x.slot == r.slot then insertByOffset r (l.filter fun x => x.slot != r.slot) else l }

/-- A record that stands in a cylinder list freed: its slot goes to the head of the free list (R50, steps 2 to 4). -/
def Pool.freeRecord (p : Pool) (k : Slot) : Pool :=
  match p.find k with
  | some _ => (p.unlink k).push k
  | none => p

/-- A record moved from its cylinder list to the back of the quarantine list (R47). -/
def Pool.quarantineRecord (p : Pool) (k : Slot) : Pool :=
  match p.find k with
  | some r => { p.unlink k with quarantine := p.quarantine ++ [r] }
  | none => p

/-- Every quarantined slot pushed onto the free list, oldest first (R49). -/
def Pool.scrub (p : Pool) : Pool :=
  { p with free := (p.quarantine.map fun r => r.slot).reverse ++ p.free, quarantine := [] }

/-! ### Cylinders, banks and ports -/

namespace State

/-- The geometry values; with no configured cylinder while they are absent (R26, R166). -/
def geometry (s : State) : Geometry :=
  s.engine.geometry.getD { order := [], pw := 0, dwellSpan := 0, recoverySpan := 0 }

/-- The configured cylinders in order of firing position; none while the configuration is not valid (R27, R166). -/
def configured (s : State) : List Cylinder := if s.engine.valid then s.geometry.order else []

/-- The enable of a cylinder, its bit in the enable mask (R125). -/
def enabled (s : State) (c : Cylinder) : Bool := inMask s.limits.enables c

/-- The bank of a cylinder; bank A when the table holds none, which no configured cylinder has. -/
def bankOf (s : State) (c : Cylinder) : Bank := (s.table.get c).bank.getD .bankA

/-- The ceiling of a request link (R81). -/
def ceiling (s : State) : Owner → Nat
  | .fuel => s.limits.fuelCeiling
  | .thermal => s.limits.thermalCeiling

/-- The slots of the records that satisfy a test, cylinder 1 first, each list from head to tail (R53). -/
def slotsWhere (s : State) (t : Record → Bool) : List Slot := (s.pool.records.filter t).map fun r => r.slot

/-- The state with every record changed in its place. -/
def mapRecords (s : State) (f : Record → Record) : State :=
  s.setPool { s.pool with lists := s.pool.lists.map fun _ l => l.map f }

/-- The state with the record of one slot changed in its place. -/
def updateRecord (s : State) (k : Slot) (f : Record → Record) : State := s.setPool (s.pool.update k f)

/-- The carry entries and carry counts of all cylinders cleared (R104). -/
def clearCarry (s : State) : State :=
  s.setTable (s.table.map fun _ e => { e with carry := none, carryCount := 0 })

/-! ### Waiting lists (R110) -/

/-- A slot taken out of the waiting list it stands in (R110). -/
def dropWaiting (s : State) (k : Slot) : State :=
  s.setDrivers
    { s.drivers with
      bankA := { s.drivers.bankA with waiting := s.drivers.bankA.waiting.filter fun e => e.slot != k }
      bankB := { s.drivers.bankB with waiting := s.drivers.bankB.waiting.filter fun e => e.slot != k } }

/-- The key that orders a waiting list: the planned start relative to the time base, the firing position of the cylinder, the
offset (R110). -/
def waitKey (s : State) (k : Slot) : Int × Nat × Int :=
  match s.pool.find k with
  | some r =>
    match r.phase with
    | .released _ planned => (relativeTo s.timeBase planned, s.geometry.order.idxOf r.cylinder, r.offset)
    | _ => (0, 0, 0)
  | none => (0, 0, 0)

end State

/-- Whether one key comes before another: earlier time, then lower firing position, then smaller offset (R110). -/
def keyBefore (x y : Int × Nat × Int) : Bool :=
  decide (x.1 < y.1) || (x.1 == y.1 && (decide (x.2.1 < y.2.1) || (x.2.1 == y.2.1 && decide (x.2.2 < y.2.2))))

namespace State

/-- An entry put into a list before the first entry whose key comes after its own. -/
def insertWait (s : State) (e : WaitEntry) : List WaitEntry → List WaitEntry
  | [] => [e]
  | x :: xs => if keyBefore (s.waitKey e.slot) (s.waitKey x.slot) then e :: x :: xs else x :: s.insertWait e xs

/-- An entry put into the waiting list of a bank at its place (R110). -/
def joinWaiting (s : State) (b : Bank) (e : WaitEntry) : State :=
  s.setBank b { s.drivers.get b with waiting := s.insertWait e (s.drivers.get b).waiting }

/-- The slots of the waiting lists: bank A's from head to tail, then bank B's (R130). -/
def waitingSlots (s : State) : List Slot :=
  (s.drivers.bankA.waiting ++ s.drivers.bankB.waiting).map fun e => e.slot

/-! ### Freeing and returning to PENDING (R50, R51) -/

/-- A record freed: it leaves its waiting list and its cylinder list, and its slot goes to the head of the free list (R50). -/
def freeSlot (s : State) (k : Slot) : State :=
  (s.dropWaiting k).setPool (s.pool.freeRecord k)

/-- The records of several slots freed, in order. -/
def freeSlots (s : State) (ks : List Slot) : State := ks.foldl (fun s k => s.freeSlot k) s

/-- A record returned to PENDING with its firing fields removed, its repeat kept (R51). -/
def returnPending (s : State) (k : Slot) : State :=
  (s.dropWaiting k).updateRecord k fun r => { r with phase := .pending }

/-- A record returned to PENDING with its repeat decreased by 1 and its check bit written anew (R51). -/
def returnCounted (s : State) (k : Slot) : State :=
  (s.dropWaiting k).updateRecord k fun r => { r with phase := .pending, repeats := r.repeats - 1 }.rechecked

/-! ### Retirement and firing reports (R122, R123) -/

/-- Retirement of a record: the state, the repeat remaining and whether the slot was freed (R123). -/
def retire (s : State) (k : Slot) (r : Record) : State × Nat × Bool :=
  if r.final || r.repeats == 1 then (s.freeSlot k, 0, true)
  else if 1 < r.repeats then (s.returnCounted k, r.repeats - 1, false)
  else (s.returnPending k, r.repeats, false)

end State

/-- Whether an outcome of a record calls for a report (R122). -/
def reportCalled (o : Outcome) (r : Record) (shortened : Bool) : Bool :=
  match o with
  | .started _ => shortened || r.report
  | _ => true

namespace State

/-- The end of a firing opportunity: retirement, then the report when one is called for (R122, R123). `cycle`, `start`,
`duration` and `noRise` are the report's items of those names. -/
def endOpportunity (s : State) (k : Slot) (o : Outcome) (cycle : Word16) (start : Option Time) (duration : Nat)
    (noRise : Bool) : State :=
  match s.pool.find k with
  | none => s
  | some r =>
    let (s', remaining, freed) := s.retire k r
    if reportCalled o r r.shortened then
      s'.append r.owner.link <| .firing
        { slot := k, tag := r.tag, cylinder := r.cylinder, kind := r.kind, carried := r.carried, cycle := cycle,
          outcome := o, shortened := r.shortened, noRise := noRise, start := start, duration := duration,
          repeats := remaining, freed := freed }
    else s'

/-- The end of a firing opportunity of a record that was not started (R122). -/
def endUnstarted (s : State) (k : Slot) (o : Outcome) : State :=
  s.endOpportunity k o s.clock.cycle none 0 false

/-- The suppression of a RELEASED record (R111); the record leaves its waiting list at its retirement. -/
def suppressReleased (s : State) (k : Slot) (cause : SuppressCause) : State :=
  match s.pool.find k with
  | some r => if r.isReleased then s.endUnstarted k (.suppressed cause) else s
  | none => s

/-- Every RELEASED record of both banks suppressed with cause OVERSPEED, bank A's waiting list first (R130). -/
def overspeedSweep (s : State) : State :=
  s.waitingSlots.foldl (fun s k => s.suppressReleased k .overspeed) s

/-- One RELEASED record on the leaving-SYNCED notice: back to PENDING, or freed when marked final (R112). -/
def leaveReleased (s : State) (k : Slot) : State :=
  match s.pool.find k with
  | some r => if r.isReleased then (if r.final then s.freeSlot k else s.returnPending k) else s
  | none => s

/-- Whether the record of a slot is marked final (R52). -/
def slotFinal (s : State) (k : Slot) : Bool :=
  match s.pool.find k with
  | some r => r.final
  | none => false

/-- A slot put among others by its free rank at a time (DESIGN CHOICE, log 7). -/
def insertRanked (t : Time) (k : Slot) : List Slot → List Slot
  | [] => [k]
  | x :: xs =>
    if Config.leavingRank t.toNat k.val ≤ Config.leavingRank t.toNat x.val then k :: x :: xs else x :: insertRanked t k xs

/-- The order in which the leaving-SYNCED notice takes the waiting records: the final ones, which it frees, in an order the spec leaves
free (R112; DESIGN CHOICE, log 7), after the others, whose order shows nowhere. -/
def leavingOrder (s : State) : List Slot :=
  (s.waitingSlots.filter fun k => !s.slotFinal k)
    ++ (s.waitingSlots.filter fun k => s.slotFinal k).foldr (insertRanked s.timeBase) []

/-- The leaving-SYNCED notice (R112). -/
def leavingSynced (s : State) : State :=
  s.leavingOrder.foldl (fun s k => s.leaveReleased k) s

/-- A DISPLACED entry for a record to the log of its owner, with the DISPLACED flag (R47, R92, R136). -/
def reportDisplaced (s : State) (r : Record) (cause : DisplaceCause) : State :=
  (s.append r.owner.link (.displaced r.slot r.tag r.cylinder r.kind r.carried cause)).raiseFlag r.owner.link .displaced

end State

end Sys2Proof.Machine
end

