-- ==== Sys2Proof/Machine/FaultUnit.lean ====
section
/-! DEFINITION. The fault unit (sections 8.2 and 8.3): the raising of a fault, the capture record, and the reactions of OVERSPEED and
INJECTOR_WATCH. -/

namespace Sys2Proof.Machine

/-- A fault record offered to the capture record: the record after it, and whether CAPTURE is raised (R144). -/
def offerCapture (c : Option Capture) (r : FaultRecord) : Option Capture × Bool :=
  match c with
  | none => (some { record := r, follow := 0 }, true)
  | some h =>
    if h.record.kind.severity < r.kind.severity then (some { record := r, follow := 0 }, true)
    else (some { h with follow := min Config.followLimit (h.follow + 1) }, false)

namespace State

/-- Whether a fault kind is masked (R142). -/
def masked (s : State) (k : FaultKind) : Bool := s.faults.mask &&& k.mask != 0

/-- Whether a fault kind is pending (R141). -/
def faultPending (s : State) (k : FaultKind) : Bool := s.faults.pending &&& k.mask != 0

/-- Whether overspeed suppression is in force (R129). -/
def overspeedSuppression (s : State) : Bool := s.limits.overspeedActive && !s.masked .overspeed

/-- The enable bit of a cylinder cleared, the reaction of INJECTOR_WATCH (R133). -/
def disableCylinder (s : State) (c : Cylinder) : State :=
  s.setLimits { s.limits with enables := s.limits.enables &&& ~~~(1#8 <<< c.val) }

/-- The reaction of a fault kind raised unmasked (R140, section 8.1). -/
def react (s : State) (k : FaultKind) (c : Option Cylinder) : State :=
  match k with
  | .overspeed => s.overspeedSweep
  | .injectorWatch =>
    match c with
    | some c => s.disableCylinder c
    | none => s
  | .lateStart | .slipSkip | .camFault | .noRise | .dryCylinder | .syncError | .phaseError | .integrity
  | .stageFault => s

/-- Steps 1 and 2 of R140: the kind latched, the record offered to the capture record. -/
def latchFault (s : State) (r : FaultRecord) : State :=
  let (capture, raised) := offerCapture s.faults.capture r
  let s := s.setFaults { s.faults with pending := s.faults.pending ||| r.kind.mask, capture := capture }
  if raised then s.raiseFlag .supervisor .capture else s

/-- The fault record of a fault raised now, with the cycle counter and the time base as they stand (R140). -/
def faultNow (s : State) (k : FaultKind) (c : Option Cylinder) (slot : Option Slot) : FaultRecord :=
  { kind := k, cylinder := c, slot := slot, cycle := s.clock.cycle, time := s.timeBase }

/-- A fault record taken: latched, offered to the capture record, and logged when its kind is unmasked (R140). Its reaction stands apart
(`react`). -/
def takeFault (s : State) (r : FaultRecord) : State :=
  let s := s.latchFault r
  if s.masked r.kind then s else s.append .supervisor (.fault r)

/-- The reaction of a fault kind when it is unmasked (R140, step 3). -/
def reactUnmasked (s : State) (k : FaultKind) (c : Option Cylinder) : State :=
  if s.masked k then s else s.react k c

/-- A fault raised and taken at once (R140). -/
def raiseFault (s : State) (k : FaultKind) (c : Option Cylinder) (slot : Option Slot) : State :=
  (s.takeFault (s.faultNow k c slot)).reactUnmasked k c

/-- A fault raised by a block within its event and handed to the fault unit, which takes it in an event of its own (R140). -/
def handFault (s : State) (x : Block) (k : FaultKind) (c : Option Cylinder) (slot : Option Slot) : State :=
  s.setFaults { s.faults with raised := s.faults.raised ++ [{ block := x, record := s.faultNow k c slot }] }

/-- The earliest fault that a block has handed over taken; nothing when none of its faults waits (R140). -/
def takeRaisedOf (s : State) (x : Block) : State :=
  match s.faults.raised.find? fun y => y.block == x with
  | none => s
  | some y => (s.setFaults { s.faults with raised := s.faults.raised.eraseP fun y => y.block == x }).takeFault y.record

/-- Every fault handed over taken, in the order raised (R140). -/
def takeRaised (s : State) : State :=
  s.faults.raised.foldl (fun s y => s.takeFault y.record) (s.setFaults { s.faults with raised := [] })

end State

end Sys2Proof.Machine
end

