-- ==== Sys2Proof/Machine/Drivers.lean ====
section
/-! DEFINITION. The bank drivers (section 6.6): start decisions, starts, the peak watch, the STAGE_FAULT line, the end of a pulse and
the recovery end. -/

namespace Sys2Proof.Machine

/-- How a pulse ends (R119). -/
inductive PulseEnd where
  | expiry
  | stage
  | cut
deriving DecidableEq, Repr

/-- The end outcome of a pulse (R119, step 5). -/
def endOutcome (why : PulseEnd) (o : StartOutcome) : Outcome :=
  match why with
  | .expiry => .started o
  | .stage => .truncatedStage
  | .cut => .truncatedCut

namespace State

/-- The head of a bank's waiting list, its record, firing fields and planned start, when the bank is IDLE and the head is due
(R114). -/
def dueHead (s : State) (b : Bank) : Option (Record × FiringFields × WaitEntry × Time) :=
  match (s.drivers.get b).state, (s.drivers.get b).waiting with
  | .idle, e :: _ =>
    match s.pool.find e.slot with
    | some r =>
      match r.phase with
      | .released f planned => if reached s.timeBase planned then some (r, f, e, planned) else none
      | _ => none
    | none => none
  | _, _ => none

/-- A FIRE line asserted (R113). -/
def assertFire (s : State) (c : Cylinder) : State :=
  s.setDrivers { s.drivers with fire := s.drivers.fire ||| (1#8 <<< c.val) }

/-- A FIRE line negated (R113). -/
def negateFire (s : State) (c : Cylinder) : State :=
  s.setDrivers { s.drivers with fire := s.drivers.fire &&& ~~~(1#8 <<< c.val) }

/-- The state of a bank replaced. -/
def setBankState (s : State) (b : Bank) (x : BankState) : State :=
  s.setBank b { s.drivers.get b with state := x }

/-- The start of a pulse (R115). -/
def startPulse (s : State) (b : Bank) (r : Record) (f : FiringFields) (o : StartOutcome) : State :=
  let s := (s.dropWaiting r.slot).updateRecord r.slot fun x => { x with phase := .firing f s.timeBase }
  (s.assertFire r.cylinder).setBankState b <| .firing
    { slot := r.slot, ends := after s.timeBase f.duration, cycle := s.clock.cycle, outcome := o, peakSeen := false,
      noRise := false, deadline := some (after s.timeBase s.engine.config.peakDeadline) }

/-- One start decision on a due head (R114). -/
def decideHead (s : State) (b : Bank) (r : Record) (f : FiringFields) (e : WaitEntry) (planned : Time) : State :=
  let slip := passedBy s.timeBase planned
  if (s.drivers.get b).stageFault then s.endUnstarted r.slot (.suppressed .stage)
  else if s.engine.config.maxSlip < slip then
    (s.endUnstarted r.slot .skippedSlip).handFault (.driver b) .slipSkip (some r.cylinder) (some r.slot)
  else if e.late then
    (s.startPulse b r f .late).handFault (.driver b) .lateStart (some r.cylinder) (some r.slot)
  else if 0 < slip then s.startPulse b r f .slipped
  else s.startPulse b r f .fired

/-- Start decisions of a bank, one at once after another while the bank is IDLE and its head is due (R114, DEDUCED, log 6). -/
def decideUpTo : Nat → Bank → State → State
  | 0, _, s => s
  | n + 1, b, s =>
    match s.dueHead b with
    | some (r, f, e, planned) => decideUpTo n b (s.decideHead b r f e planned)
    | none => s

/-- The start decisions a bank takes now (R114). -/
def takeDecisions (s : State) (b : Bank) : State := decideUpTo (s.drivers.get b).waiting.length b s

/-- The start decisions of a bank as an event by themselves: the fault unit takes the faults they raise (R114, R140). -/
def decideNow (s : State) (b : Bank) : State := (s.takeDecisions b).takeRaised

/-- The running pulse of a bank. -/
def runningPulse (s : State) (b : Bank) : Option RunningPulse :=
  match (s.drivers.get b).state with
  | .firing p => some p
  | _ => none

/-- The cylinder of the running pulse of a bank. -/
def firingCylinder (s : State) (b : Bank) : Option Cylinder :=
  (s.runningPulse b).bind fun p => (s.pool.find p.slot).map fun r => r.cylinder

/-- The actual start of a FIRING record; the current time base for any other, which no running pulse has. -/
def actualStart (s : State) (r : Record) : Time :=
  match r.phase with
  | .firing _ a => a
  | _ => s.timeBase

/-- Steps 2 to 4 of R119 on the cylinder's status entry. -/
def closePulse (s : State) (p : RunningPulse) (r : Record) (why : PulseEnd) (driven : Nat) : CylinderStatus :=
  let e := s.table.get r.cylinder
  let e := { e with fired := e.fired + driven, streak := if p.peakSeen then 0 else e.streak }
  match r.phase with
  | .firing f _ =>
    if why = .expiry ∧ r.owner = .fuel ∧ r.kind = .main ∧ r.carried = false then
      { e with carry := some { offset := r.offset, duration := f.duration }, carryCount := 0 }
    else e
  | _ => e

/-- The end of a bank's running pulse (R119). -/
def endPulse (s : State) (b : Bank) (why : PulseEnd) : State :=
  match s.runningPulse b with
  | none => s
  | some p =>
    let recovering := s.setBankState b (.recovery (after s.timeBase s.engine.config.bankRecovery))
    match s.pool.find p.slot with
    | none => recovering
    | some r =>
      let driven := passedBy s.timeBase (s.actualStart r)
      ((recovering.negateFire r.cylinder).setCylinder r.cylinder (s.closePulse p r why driven)).endOpportunity
        p.slot (endOutcome why p.outcome) p.cycle (some (s.actualStart r)) driven p.noRise

/-- The expiry of the pulse end time (R119); nothing when no pulse of the bank has reached its end (DESIGN CHOICE, log 4). -/
def pulseExpiry (s : State) (b : Bank) : State :=
  match s.runningPulse b with
  | some p => if reached s.timeBase p.ends then s.endPulse b .expiry else s
  | none => s

/-- A PEAK edge of a bank (R116). -/
def peakEdge (s : State) (b : Bank) : State :=
  match s.runningPulse b with
  | some p => s.setBankState b (.firing { p with peakSeen := true })
  | none => s

/-- A pulse without a peak by its deadline: no-rise, NO_RISE, the streak, and INJECTOR_WATCH when it stands at 3 (R117). -/
def noPeak (s : State) (b : Bank) (p : RunningPulse) : State :=
  let s := s.setBankState b (.firing { p with deadline := none, noRise := true })
  match s.pool.find p.slot with
  | none => s
  | some r =>
    let s := s.raiseFault .noRise (some r.cylinder) (some p.slot)
    let e := s.table.get r.cylinder
    let s := s.setCylinder r.cylinder { e with streak := min Config.streakLimit (e.streak + 1) }
    if Config.streakLimit ≤ e.streak + 1 then s.raiseFault .injectorWatch (some r.cylinder) (some p.slot) else s

/-- The expiry of the peak deadline (R117); nothing when no armed deadline of the bank has been reached (DESIGN CHOICE, log 4). -/
def peakExpiry (s : State) (b : Bank) : State :=
  match s.runningPulse b with
  | some p =>
    match p.deadline with
    | some d =>
      if reached s.timeBase d then
        if p.peakSeen then s.setBankState b (.firing { p with deadline := none }) else s.noPeak b p
      else s
    | none => s
  | none => s

/-- The recovery end (R120); nothing when the bank is not in RECOVERY or its end has not been reached (DESIGN CHOICE, log 4). -/
def recoveryExpiry (s : State) (b : Bank) : State :=
  match (s.drivers.get b).state with
  | .recovery ends => if reached s.timeBase ends then (s.setBankState b .idle).decideNow b else s
  | _ => s

/-- A bank's STAGE_FAULT line at a level. -/
def setStageLine (s : State) (b : Bank) (level : Bool) : State :=
  s.setBank b { s.drivers.get b with stageFault := level }

/-- A change of a bank's STAGE_FAULT line to asserted (R118); nothing when it is asserted already (DEDUCED, log 17). -/
def assertStage (s : State) (b : Bank) : State :=
  if (s.drivers.get b).stageFault then s
  else
    let s := s.setStageLine b true
    match s.runningPulse b with
    | some p => (s.raiseFault .stageFault (s.firingCylinder b) (some p.slot)).endPulse b .stage
    | none => s.raiseFault .stageFault none none

end State

end Sys2Proof.Machine
end

