-- ==== Sys2Proof/Machine/Placement.lean ====
section
/-! DEFINITION. The placement unit (chapters 4.6 and 5): the arbiter, the placement plan, the plan of a carried MAIN, and the takes of
PLACE, AMEND and WITHDRAW. -/

namespace Sys2Proof.Machine

/-! ### The plan, steps 5 to 7 -/

/-- What steps 5 to 7 judge: a new pulse, an amended one or a carried MAIN, with the values left by step 2; `exclude` names the
record left out of every test (R97). -/
structure PlanInput where
  owner : Owner
  cylinder : Cylinder
  kind : Kind
  offset : Int
  duration : Nat
  priority : Nat
  exclude : Option Slot
deriving DecidableEq, Repr

/-- A record marked to be displaced, with the cause (R88, R89, R90). -/
structure Mark where
  record : Record
  cause : DisplaceCause
deriving DecidableEq, Repr

/-- The result of steps 5 to 7: the marks in the order made, the duration and the budget-clamped flag; or a reason, with the blocking
slot of a CONFLICT. -/
inductive PlanResult where
  | accepted (marks : List Mark) (duration : Nat) (budgetClamped : Bool)
  | refused (reason : Reason) (blocking : Option Slot)
deriving DecidableEq, Repr

/-- Whether a record may be displaced by a request of a priority: PENDING and strictly below it (R88, R89, R90). -/
def displaceable (priority : Nat) (r : Record) : Bool := r.isPending && decide (r.priority < priority)

/-- Whether a record is to be displaced before another: lower priority first, then larger offset (R89, R90). -/
def displacedBefore (x y : Record) : Bool :=
  decide (x.priority < y.priority) || (x.priority == y.priority && decide (y.offset < x.offset))

/-- The record that steps 6 and 7 would displace next (R89, R90). -/
def nextVictim (priority : Nat) (rs : List Record) : Option Record :=
  rs.foldl (fun best r =>
    if displaceable priority r then
      match best with
      | some x => if displacedBefore r x then some r else some x
      | none => some r
    else best) none

/-- The sum of the placed durations of records (R90). -/
def sumDurations (rs : List Record) : Nat := (rs.map fun r => r.duration).sum

/-- The budget marks of step 7 and the records left unmarked: marks one at a time until the durations fit or no record qualifies
(R90). The first argument bounds the marks by the number of records. -/
def budgetMarks : Nat → Nat → Nat → Nat → List Record → List Record × List Record
  | 0, _, _, _, rs => ([], rs)
  | n + 1, budget, d, priority, rs =>
    if sumDurations rs + d ≤ budget then ([], rs)
    else match nextVictim priority rs with
      | none => ([], rs)
      | some v =>
        let (marks, left) := budgetMarks n budget d priority (rs.filter fun r => r.slot != v.slot)
        (v :: marks, left)

namespace State

/-- The records of a cylinder list, less one record left out. -/
def listWithout (s : State) (c : Cylinder) (exclude : Option Slot) : List Record :=
  (s.pool.lists.get c).filter fun r => some r.slot != exclude

/-- The other configured cylinders of a cylinder's bank, in increasing number (R87). -/
def bankMates (s : State) (c : Cylinder) : List Cylinder :=
  allCylinders.filter fun x => x != c && s.configured.contains x && s.bankOf x == s.bankOf c

/-- Whether a record conflicts with the pulse that is judged (R32, R87). The pulse starts at TDC plus its offset, for an AMEND without a new offset
too, whatever start angle its record holds (DESIGN CHOICE, log 28). -/
def clashes (s : State) (q : PlanInput) (gap : Nat) (r : Record) : Bool :=
  conflicts (startAngle (s.table.get q.cylinder).tdc q.offset) (span s.geometry.pw q.duration) r.start
    (span s.geometry.pw r.duration) gap

/-- The conflict set, in the order of the visit (R87). -/
def conflictSet (s : State) (q : PlanInput) : List Record :=
  (s.listWithout q.cylinder q.exclude).filter (s.clashes q s.geometry.dwellSpan)
    ++ (s.bankMates q.cylinder).flatMap fun c => (s.listWithout c q.exclude).filter (s.clashes q s.geometry.recoverySpan)

/-- Steps 5, 6 and 7 of the placement plan (R87 to R91). -/
def planFit (s : State) (q : PlanInput) : PlanResult :=
  let conflict := s.conflictSet q
  match conflict.find? fun r => !displaceable q.priority r with
  | some r => .refused .conflict (some r.slot)
  | none =>
    let own := (s.listWithout q.cylinder q.exclude).filter fun r => !(conflict.any fun x => x.slot == r.slot)
    let capacity := if own.length < s.engine.config.cap then some [] else (nextVictim q.priority own).map fun v => [v]
    match capacity with
    | none => .refused .cylinderFull none
    | some capacity =>
      let own := own.filter fun r => !(capacity.any fun x => x.slot == r.slot)
      let (budget, left) := budgetMarks own.length s.limits.budget q.duration q.priority own
      let marks := conflict.map (fun r => { record := r, cause := .conflict : Mark })
        ++ capacity.map (fun r => { record := r, cause := .capacity : Mark })
        ++ budget.map (fun r => { record := r, cause := .budget : Mark })
      if sumDurations left + q.duration ≤ s.limits.budget then .accepted marks q.duration false
      else if q.owner = .fuel ∧ q.kind = .main ∧ sumDurations left + Config.minDuration ≤ s.limits.budget then
        .accepted marks (s.limits.budget - sumDurations left) true
      else .refused .budget none

/-! ### Step 8 -/

/-- The marked records freed in the order of the marks, each with its DISPLACED entry (R92). -/
def displaceMarked (s : State) (marks : List Mark) : State :=
  marks.foldl (fun s m => (s.freeSlot m.record.slot).reportDisplaced m.record m.cause) s

/-- A pop from the free list, with POOL_LOW on both request links when it crosses the reserve (R39, R40). -/
def popSlot (s : State) : State :=
  let before := s.pool.free.length
  let s := s.setPool s.pool.pop
  if s.limits.reserve < before ∧ before - 1 ≤ s.limits.reserve then
    (s.raiseFlag .fuel .poolLow).raiseFlag .thermal .poolLow
  else s

/-- The record a slot is filled with, PENDING, its check bit written (R93, R95). -/
def filledRecord (s : State) (slot : Slot) (q : PlanInput) (duration : Nat) (tag : Byte) (carried : Bool) (repeats : Nat)
    (report : Bool) : Record :=
  Record.rechecked
    { slot := slot, owner := q.owner, tag := tag, carried := carried, cylinder := q.cylinder, kind := q.kind,
      offset := q.offset, start := startAngle (s.table.get q.cylinder).tdc q.offset, duration := duration,
      priority := q.priority, repeats := repeats, report := report, check := false, phase := .pending }

/-- Step 8 up to the outcome entry: the displacements, the pop, the fill and the insertion; the slot filled (R92, R93). An empty free
list, which step 4 rules out, fills nothing. -/
def applyPlan (s : State) (q : PlanInput) (marks : List Mark) (duration : Nat) (tag : Byte) (carried : Bool) (repeats : Nat)
    (report : Bool) : State × Option Slot :=
  let s := s.displaceMarked marks
  match s.pool.free with
  | [] => (s, none)
  | k :: _ =>
    let r := s.filledRecord k q duration tag carried repeats report
    let s := s.popSlot
    (s.setPool (s.pool.insert r), some k)

/-! ### PLACE (R78 to R94) -/

/-- A refusal at a take: the REFUSED entry, and CLAMP when a clamp flag was set before it (R84, R94). -/
def refuseTake (s : State) (o : Owner) (command : StagedCommand) (slot : Option Byte) (tag : Byte) (reason : Reason)
    (flags : ClampFlags) (blocking : Option Slot) : State :=
  let s := if flags.any then s.raiseFlag o.link .clamp else s
  s.append o.link (.refused command slot tag reason flags blocking)

end State

/-- Whether a request link may place a kind (R79). -/
def mayPlace (o : Owner) (k : Kind) : Bool :=
  match o, k with
  | .fuel, .pre | .fuel, .main | .fuel, .after | .thermal, .after | .thermal, .late => true
  | .fuel, .late | .thermal, .pre | .thermal, .main => false

/-- The priority clamp: the priority used and the flag (R81). -/
def clampPriority (ceiling priority : Nat) : Nat × Bool :=
  if ceiling < priority then (ceiling, true) else if priority = 0 then (1, true) else (priority, false)

/-- The duration clamp: the duration used and the flag; none for a duration of 0 (R82). -/
def clampDuration (d : Nat) : Option (Nat × Bool) :=
  if d = 0 then none
  else if d < Config.minDuration then some (Config.minDuration, true)
  else if Config.maxDuration < d then some (Config.maxDuration, true)
  else some (d, false)

/-- The offset clamp: the offset used and the flag (R83). -/
def clampOffset (w : Window) (x : Int) : Int × Bool :=
  if x < w.lo then (w.lo, true) else if w.hi < x then (w.hi, true) else (x, false)

namespace State

/-- Step 1 of the plan: the cylinder and kind of a ready request, or the reason (R79). -/
def readiness (s : State) (o : Owner) (r : PlaceRequest) : Except Reason (Cylinder × Kind) :=
  if !s.engine.valid then .error .notReady
  else match cylinderOf r.cylinder.toNat with
    | none => .error .badCylinder
    | some c =>
      if s.configured.length < cylinderNumber c then .error .badCylinder
      else match kindOf r.kind with
        | none => .error .badKind
        | some k => if mayPlace o k then .ok (c, k) else .error .badKind

/-- Step 3 of the plan: the reason a stamp refuses the request, if it does (R85). -/
def stampRefusal (s : State) (r : PlaceRequest) (start : Nat) : Option Reason :=
  if !r.stampPresent then none
  else if s.clock.sync ≠ .synced then some .notSynced
  else stampVerdict r.stamp.toNat (firingCycle start s.clock.lastAngle s.engine.config.lead s.clock.cycle.toNat)

/-- Step 4 of the plan: the reason the pool refuses the request, if it does (R86). -/
def poolRefusal (s : State) (o : Owner) : Option Reason :=
  if s.pool.free.length = 0 then some .poolEmpty
  else if o = .thermal ∧ s.pool.free.length ≤ s.limits.reserve then some .poolLow
  else none

/-- A PLACE taken (R78 to R94). -/
def applyPlace (s : State) (o : Owner) (r : PlaceRequest) : State :=
  match s.readiness o r with
  | .error reason => s.refuseTake o .place none r.tag reason noClamps none
  | .ok (c, k) =>
    let (priority, pc) := clampPriority (s.ceiling o) r.priority.toNat
    match clampDuration r.duration.toNat with
    | none => s.refuseTake o .place none r.tag .badDuration { noClamps with priority := pc } none
    | some (duration, dc) =>
      let (offset, oc) := clampOffset (s.engine.config.window k) r.offset.toInt
      let flags : ClampFlags := { priority := pc, duration := dc, offset := oc, budget := false }
      match s.stampRefusal r (startAngle (s.table.get c).tdc offset) with
      | some reason => s.refuseTake o .place none r.tag reason flags none
      | none =>
        match s.poolRefusal o with
        | some reason => s.refuseTake o .place none r.tag reason flags none
        | none =>
          let q : PlanInput :=
            { owner := o, cylinder := c, kind := k, offset := offset, duration := duration, priority := priority,
              exclude := none }
          match s.planFit q with
          | .refused reason blocking => s.refuseTake o .place none r.tag reason flags blocking
          | .accepted marks placed bc =>
            let flags := { flags with budget := bc }
            let disabled := !s.enabled c
            let (s, slot) := s.applyPlan q marks placed r.tag false r.repeats.toNat r.report
            let s := if flags.any then s.raiseFlag o.link .clamp else s
            match slot with
            | some slot => s.append o.link (.placed slot r.tag flags disabled marks.length placed)
            | none => s

/-! ### The carried MAIN (R95) -/

/-- A carried MAIN judged by steps 4 to 8: the state after, and whether it was accepted (R95). -/
def placeCarried (s : State) (c : Cylinder) (entry : CarryEntry) : State × Bool :=
  if s.pool.free.length = 0 then (s, false)
  else
    let q : PlanInput :=
      { owner := .fuel, cylinder := c, kind := .main, offset := entry.offset, duration := entry.duration,
        priority := s.limits.fuelCeiling, exclude := none }
    match s.planFit q with
    | .refused _ _ => (s, false)
    | .accepted marks placed bc =>
      let s := (s.applyPlan q marks placed 0 true 1 true).1
      (if bc then s.raiseFlag .fuel .clamp else s, true)

/-! ### AMEND and WITHDRAW (R96 to R99) -/

/-- The record an AMEND or WITHDRAW matches: in a cylinder list, owned by the requester, with the tag (R96). -/
def matched (s : State) (o : Owner) (slot tag : Byte) : Option Record :=
  match slotOf slot.toNat with
  | none => none
  | some k =>
    match s.pool.find k with
    | some r => if r.owner = o ∧ r.tag = tag then some r else none
    | none => none

/-- The fields of an accepted amendment: with the offset as it was, the duration alone, in the record's place; with a new offset, that, its start
angle and the duration, and the record moved within its list. The check bit is written anew in both (R45, R98). -/
def replaceAmended (s : State) (r : Record) (offset : Int) (duration : Nat) : State :=
  if offset = r.offset then s.updateRecord r.slot fun x => { x with duration := duration }.rechecked
  else
    let r := { r with offset := offset, start := startAngle (s.table.get r.cylinder).tdc offset, duration := duration }
    s.setPool (s.pool.moveInList r.rechecked)

/-- An AMEND taken (R68, R96 to R98). Steps 5 to 7 take the list of the cylinder its record holds as the record's own (DESIGN CHOICE, log 28). -/
def applyAmend (s : State) (o : Owner) (a : AmendRequest) : State :=
  let refuse (reason : Reason) (flags : ClampFlags) (blocking : Option Slot) : State :=
    s.refuseTake o .amend (some a.slot) a.tag reason flags blocking
  if !a.offsetPresent && !a.durationPresent then refuse .badArgument noClamps none
  else match s.matched o a.slot a.tag with
    | none => refuse .noSuchRecord noClamps none
    | some r =>
      if !r.isPending then refuse .tooLate noClamps none
      else match (if a.durationPresent then clampDuration a.duration.toNat else some (r.duration, false)) with
        | none => refuse .badDuration noClamps none
        | some (duration, dc) =>
          let (offset, oc) :=
            if a.offsetPresent then clampOffset (s.engine.config.window r.kind) a.offset.toInt else (r.offset, false)
          let flags : ClampFlags := { priority := false, duration := dc, offset := oc, budget := false }
          let q : PlanInput :=
            { owner := r.owner, cylinder := r.cylinder, kind := r.kind, offset := offset, duration := duration,
              priority := r.priority, exclude := some r.slot }
          match s.planFit q with
          | .refused reason blocking => refuse reason flags blocking
          | .accepted marks placed bc =>
            let flags := { flags with budget := bc }
            let s := (s.displaceMarked marks).replaceAmended r offset placed
            let s := if flags.any then s.raiseFlag o.link .clamp else s
            s.append o.link (.amended r.slot r.tag flags marks.length placed)

/-- A WITHDRAW taken (R96, R99). -/
def applyWithdraw (s : State) (o : Owner) (w : WithdrawRequest) : State :=
  match s.matched o w.slot w.tag with
  | none => s.refuseTake o .withdraw (some w.slot) w.tag .noSuchRecord noClamps none
  | some r =>
    if r.isPending then (s.freeSlot r.slot).append o.link (.withdrawn r.slot r.tag)
    else s.refuseTake o .withdraw (some w.slot) w.tag .tooLate noClamps none

/-! ### The arbiter (R72, R73) -/

/-- Whether a request link's queue is waiting: its port LIVE and its staging count above 0 (R72). -/
def waitingQueue (s : State) (o : Owner) : Bool :=
  (s.staging.get o).state == .live && (s.staging.get o).queue != []

/-- The queue the arbiter takes from and the fuel run count after the take; none when neither waits (R73). -/
def arbiter (s : State) : Option (Owner × Nat) :=
  if s.waitingQueue .fuel then
    if s.waitingQueue .thermal then
      if s.staging.fuelRun < Config.fuelRunLimit then some (.fuel, s.staging.fuelRun + 1) else some (.thermal, 0)
    else some (.fuel, 0)
  else if s.waitingQueue .thermal then some (.thermal, 0)
  else none

/-- The request the placement unit would take next, with its link and the fuel run count after the take (R72). -/
def nextTake (s : State) : Option (Owner × Nat × Staged) :=
  match s.arbiter with
  | some (o, run) => (s.staging.get o).queue.head?.map fun x => (o, run, x)
  | none => none

/-- The head of a queue removed and the fuel run count set (R72, R73). -/
def removeHead (s : State) (o : Owner) (run : Nat) : State :=
  let s := s.setPort o { s.staging.get o with queue := (s.staging.get o).queue.tail }
  s.setStaging { s.staging with fuelRun := run }

/-- A request applied to the timeline (R72). -/
def applyStaged (s : State) (o : Owner) : Staged → State
  | .place r => s.applyPlace o r
  | .amend a => s.applyAmend o a
  | .withdraw w => s.applyWithdraw o w

/-- One take of the placement unit; nothing when neither queue waits (R72). -/
def take (s : State) : State :=
  match s.nextTake with
  | some (o, run, x) => (s.removeHead o run).applyStaged o x
  | none => s

end State

end Sys2Proof.Machine
end

