-- ==== Sys2Proof/Machine/Release.lean ====
section
/-! DEFINITION. What takes an angle advance (R15): the release unit (sections 6.1 to 6.4), the angle marks (R22) and the overspeed check
(R128), with the start decisions that a tooth brings on (R114) and the faults the fault unit takes at it (R140). -/

namespace Sys2Proof.Machine

/-- The class of an interval (R2, R15). -/
inductive IntervalClass where
  /-- The first tooth after STOPPED. -/
  | none
  | normal
  | gapLike
deriving DecidableEq, Repr

/-- An angle advance (R15). Its rpm is that of its period (R36). -/
structure Advance where
  state : SyncState
  time : Time
  cls : IntervalClass
  period : Option Nat
  /-- The old and the new cycle angle, when the clock was SYNCED before and after the tooth. -/
  angles : Option (Nat × Nat)
  cycle : Word16
deriving DecidableEq, Repr

namespace State

/-! ### The release unit -/

/-- The firing boundary of a cylinder (R102). -/
def boundaryStep (s : State) (c : Cylinder) (old new : Nat) : State :=
  let e := s.table.get c
  if inScan old new (boundaryOf e.tdc) then
    s.setCylinder c { e with lastFired := e.fired, fired := 0, released := 0 }
  else s

/-- Whether a cylinder list holds a fuel MAIN in any state (R103). -/
def hasFuelMain (s : State) (c : Cylinder) : Bool :=
  (s.pool.lists.get c).any fun r => r.owner == .fuel && r.kind == .main

/-- The action of a carry-over decision that is made (R103). -/
def carryOver (s : State) (c : Cylinder) : State :=
  match (s.table.get c).carry with
  | some entry =>
    if (s.table.get c).carryCount < s.engine.config.carryLimit then
      match s.placeCarried c entry with
      | (s, true) =>
        (s.setCylinder c { s.table.get c with carryCount := (s.table.get c).carryCount + 1 }).raiseFlag .fuel .carry
      | (s, false) => s.handFault .release .dryCylinder (some c) none
    else s.handFault .release .dryCylinder (some c) none
  | none => s.handFault .release .dryCylinder (some c) none

/-- The carry-over decision of a cylinder (R103). -/
def carryStep (s : State) (c : Cylinder) (old new : Nat) : State :=
  let point := decisionPoint (s.table.get c).tdc s.engine.config.mainWindow.lo s.engine.config.lead
  if inScan old new point && s.enabled c && !s.limits.overspeedActive && !s.hasFuelMain c then s.carryOver c else s

/-- A record that fails its check at release (R47). -/
def quarantine (s : State) (r : Record) : State :=
  ((s.setPool (s.pool.quarantineRecord r.slot)).reportDisplaced r .integrity).handFault .release .integrity (some r.cylinder)
    (some r.slot)

/-- A record released with its firing fields; it joins its bank's waiting list (R107). -/
def releaseRecord (s : State) (r : Record) (duration : Nat) (shortened : Bool) (toothAngle period : Nat) : State :=
  let planned := plannedStart s.timeBase r.start toothAngle period
  let s := s.updateRecord r.slot fun x =>
    { x with phase := .released { duration := duration, shortened := shortened, final := false } planned }
  let e := s.table.get r.cylinder
  let s := s.setCylinder r.cylinder { e with released := e.released + duration }
  s.joinWaiting (s.bankOf r.cylinder) { slot := r.slot, late := false }

/-- A PENDING record whose release point lies in the scan interval, taken by the release step: the integrity check, suppression, and
release or budget-skip (R47, R105 to R107). -/
def releaseOne (s : State) (k : Slot) (new period : Nat) : State :=
  match s.pool.find k with
  | none => s
  | some r =>
    if !r.isPending then s
    else if !r.intact then s.quarantine r
    else if !s.enabled r.cylinder then s.endUnstarted k (.suppressed .disabled)
    else if s.overspeedSuppression then s.endUnstarted k (.suppressed .overspeed)
    else match budgetAtRelease s.limits.budget (s.table.get r.cylinder).released r.duration with
      | none => s.endUnstarted k .budgetSkipped
      | some (duration, shortened) => s.releaseRecord r duration shortened new period

/-- The slots the release step of a cylinder takes, in list order (R105). -/
def releaseSlots (s : State) (c : Cylinder) (old new : Nat) : List Slot :=
  ((s.pool.lists.get c).filter fun r =>
    r.isPending && inScan old new (releasePoint r.start s.engine.config.lead)).map fun r => r.slot

/-- A waiting list with the entry of one slot taken out and put back at its place, with a late note (R108, R109, R110). -/
def reposition (s : State) (k : Slot) (b : Bank) (late : Bool) : State :=
  (s.dropWaiting k).joinWaiting b { slot := k, late := late }

/-- Whether the waiting-list entry of a slot carries the late note (R110). -/
def lateNote (s : State) (k : Slot) : Bool :=
  (s.drivers.bankA.waiting ++ s.drivers.bankB.waiting).any fun e => e.slot == k && e.late

/-- The planned start of a RELEASED record replaced. -/
def setPlanned (s : State) (k : Slot) (planned : Time) : State :=
  s.updateRecord k fun r =>
    match r.phase with
    | .released f _ => { r with phase := .released f planned }
    | _ => r

/-- The recomputation of a RELEASED record: the late note when the tooth has passed its start, a new planned start otherwise, nothing
for a record in another state or with the late note already (R108, R109). -/
def recomputeOne (s : State) (k : Slot) (old new period : Nat) : State :=
  match s.pool.find k with
  | none => s
  | some r =>
    if !r.isReleased || s.lateNote k then s
    else if inScan old new r.start then
      (s.setPlanned k s.timeBase).reposition k (s.bankOf r.cylinder) true
    else (s.setPlanned k (plannedStart s.timeBase r.start new period)).reposition k (s.bankOf r.cylinder) false

/-- The slots of the RELEASED records of a cylinder list. -/
def releasedSlots (s : State) (c : Cylinder) : List Slot :=
  ((s.pool.lists.get c).filter fun r => r.isReleased).map fun r => r.slot

/-- The four steps of the release event for one cylinder (R101). The recomputation leaves out the records released in the same event
(R108). -/
def releaseCylinder (s : State) (c : Cylinder) (old new period : Nat) : State :=
  let s := (s.boundaryStep c old new).carryStep c old new
  let waiting := s.releasedSlots c
  let s := (s.releaseSlots c old new).foldl (fun s k => s.releaseOne k new period) s
  waiting.foldl (fun s k => s.recomputeOne k old new period) s

/-- The release event: the configured cylinders in order of firing position (R101). -/
def releaseEvent (s : State) (old new period : Nat) : State :=
  s.configured.foldl (fun s c => s.releaseCylinder c old new period) s

/-! ### The angle marks (R22) -/

/-- The configured cylinders of a mark unit whose mark angle lies in the scan interval (R22). -/
def markHits (s : State) (u : MarkUnit) (old new : Nat) : List Cylinder :=
  allCylinders.filter fun c =>
    s.configured.contains c && inMask u.mask c && inScan old new (startAngle (s.table.get c).tdc u.offset)

/-- One hit of a mark unit: the MARK entry and the MARK flag (R22). -/
def markHit (s : State) (i : MarkIndex) (owner : Link) (c : Cylinder) (adv : Advance) : State :=
  (s.append owner (.mark i c adv.cycle adv.time)).raiseFlag owner .mark

/-- One mark unit tested against an advance; a ONCE unit that hits becomes free (R22). -/
def markOne (s : State) (i : MarkIndex) (old new : Nat) (adv : Advance) : State :=
  match s.marks.get i with
  | none => s
  | some u =>
    let hits := s.markHits u old new
    let s := hits.foldl (fun s c => s.markHit i u.owner c adv) s
    if u.mode = .once ∧ hits ≠ [] then s.setMarks (s.marks.set i none) else s

/-- The mark units take an advance with angles, in unit order (R22). -/
def marksTake (s : State) (old new : Nat) (adv : Advance) : State :=
  allMarks.foldl (fun s i => s.markOne i old new adv) s

/-! ### The overspeed check (R128) -/

/-- The overspeed check of an advance (R36, R128). The sweep of an unmasked OVERSPEED is part of this event (R130), whenever the fault unit takes
the fault (DEDUCED, log 25). -/
def overspeedCheck (s : State) (adv : Advance) : State :=
  match adv.cls, adv.period with
  | .normal, some p =>
    if !s.limits.overspeedActive && decide (s.limits.overspeed < rpmOf p) then
      ((s.setLimits { s.limits with overspeedActive := true }).handFault .limits .overspeed none none).reactUnmasked .overspeed none
    else if s.limits.overspeedActive && decide (rpmOf p + Config.overspeedHysteresis ≤ s.limits.overspeed) then
      s.setLimits { s.limits with overspeedActive := false }
    else s
  | _, _ => s

end State

/-! ### One advance, taken in an order (R15, R121, R131, R140; the order is an operand of CRANK_EDGE, DESIGN CHOICE, log 5) -/

/-- The blocks that take an advance: the release unit, the limit set with its overspeed check, each bank driver, whose head the tooth may have
made due, and the angle marks (R15, R114). -/
def advanceBlocks : List Block := [.release, .limits, .driver .bankA, .driver .bankB, .marks]

namespace State

/-- One block's part of an advance. The release unit, the marks and the start decisions act only on an advance with angles (R15). -/
def blockStep (s : State) (adv : Advance) (x : Block) : State :=
  match x, adv.angles with
  | .limits, _ => s.overspeedCheck adv
  | .release, some (old, new) => s.releaseEvent old new (adv.period.getD 0)
  | .marks, some (old, new) => s.marksTake old new adv
  | .driver b, some _ => s.takeDecisions b
  | .clock, _ => s
  | _, none => s

/-- One turn: a block that has not yet taken the advance takes it, or the fault unit takes a waiting fault of a block; a turn with nothing to do
changes nothing. The second component is the blocks that have not yet taken the advance. -/
def edgeTurn (adv : Advance) (w : State × List Block) (turn : EdgeTurn) : State × List Block :=
  match turn with
  | .acts x => if x ∈ w.2 then (w.1.blockStep adv x, w.2.erase x) else w
  | .fault x => (w.1.takeRaisedOf x, w.2)

/-- An advance taken once by every block, and every fault raised at the tooth taken by the fault unit, in the order of the turns. The blocks the
turns leave out act after them, and the faults they leave out are taken last, in the order raised. Start decisions that come before the
release event find the heads due without it; a head that becomes due after its bank's turn is started by the bank's next decision at the same
time (DESIGN CHOICE, log 5). -/
def takeAdvance (s : State) (turns : List EdgeTurn) (adv : Advance) : State :=
  ((turns ++ advanceBlocks.map EdgeTurn.acts).foldl (edgeTurn adv) (s, advanceBlocks)).1.takeRaised

end State

end Sys2Proof.Machine
end

