-- ==== Sys2Proof/Machine/Clock.lean ====
section
/-! DEFINITION. The angle clock (chapter 1): the crank edge, the cam edge and the stall expiry. -/

namespace Sys2Proof.Machine

/-- No cam edge noted, and a verdict of not opposite (R8, R18). -/
def emptyCam : CamHistory := { seen := false, good := false, opposite := false, verdict := false }

/-- The class of an interval under the period in force before the edge (R2). -/
def classify (period : Option Nat) (interval : Nat) : IntervalClass :=
  match period with
  | some p => if 2 * p ≤ interval then .gapLike else .normal
  | none => .normal

/-- Whether the noise filter discards an edge (R1). -/
def discarded (period : Option Nat) (interval : Nat) : Bool :=
  match period with
  | some p => decide (4 * interval < p)
  | none => interval == 0

/-- The expected tooth index (R5). -/
def expectedTooth (tooth : Nat) : Nat := if tooth = Config.lastToothIndex then 0 else tooth + 1

/-- Whether an accepted tooth is correct at the expected index (R5). -/
def correctTooth (expected : Nat) (cls : IntervalClass) : Bool := (expected == 0) == (cls == .gapLike)

/-- The cycle angle of a tooth (R6). -/
def toothAngle (tooth : Nat) (revolution : Fin 2) : Nat := Config.pitchSteps * tooth + Config.revolutionSteps * revolution.val

namespace State

/-- A change of sync state, with SYNC on all three links (R10). -/
def changeSync (s : State) (x : SyncState) : State := (s.setClock { s.clock with sync := x }).raiseSync

/-- An accepted tooth: the last tooth time, the stall timer, and the period of a normal interval (R1, R2). -/
def acceptTooth (s : State) (cls : IntervalClass) (interval : Nat) : State :=
  s.setClock
    { s.clock with
      lastTooth := s.timeBase
      stall := some (after s.timeBase (s.engine.config.stallTimeout * 1000))
      period := if cls = .normal then some interval else s.clock.period }

/-- A tooth in HUNT (R4). -/
def huntTooth (s : State) (cls : IntervalClass) : State :=
  if cls = .gapLike then
    if s.clock.normalSeen then
      (s.setClock { s.clock with tooth := 0, lastAngle := 0, normalSeen := false }).changeSync .gapFound
    else s
  else s.setClock { s.clock with normalSeen := true }

/-- SYNC_ERROR: the fault, and the clock in HUNT (R5). -/
def syncError (s : State) : State :=
  ((s.handFault .clock .syncError none none).setClock { s.clock with normalSeen := false }).changeSync .hunt

/-- A tooth in GAP_FOUND (R5). -/
def gapFoundTooth (s : State) (cls : IntervalClass) : State :=
  let expected := expectedTooth s.clock.tooth
  if correctTooth expected cls then
    s.setClock { s.clock with tooth := expected, lastAngle := Config.pitchSteps * expected }
  else s.syncError

/-- The close of the cam history at the reference tooth: the state, and whether PHASE_ERROR was raised (R14). -/
def closeCycle (s : State) : State × Bool :=
  let h := s.clock.cam
  if !h.seen then ((s.handFault .clock .camFault none none).setClock { s.clock with cam := emptyCam }, false)
  else if h.opposite && !h.good then
    if h.verdict then
      (((s.handFault .clock .phaseError none none).setClock { s.clock with cam := emptyCam, tooth := 0, lastAngle := 0 }).changeSync
        .gapFound, true)
    else (s.setClock { s.clock with cam := { emptyCam with verdict := true } }, false)
  else (s.setClock { s.clock with cam := emptyCam }, false)

/-- A tooth in SYNCED: the state, and the old and new cycle angle when the clock stays SYNCED (R5, R6, R9, R14). -/
def syncedTooth (s : State) (cls : IntervalClass) : State × Option (Nat × Nat) :=
  let expected := expectedTooth s.clock.tooth
  if correctTooth expected cls then
    let old := s.clock.lastAngle
    let revolution := if expected = 0 then s.clock.revolution + 1 else s.clock.revolution
    let new := toothAngle expected revolution
    let s := s.setClock { s.clock with tooth := expected, revolution := revolution, lastAngle := new }
    if expected = 0 ∧ revolution = 0 then
      match (s.setClock { s.clock with cycle := s.clock.cycle + 1 }).closeCycle with
      | (s, true) => (s.leavingSynced, none)
      | (s, false) => (s, some (old, new))
    else (s, some (old, new))
  else (s.syncError.leavingSynced, none)

/-- The angle advance of the tooth just taken (R15). -/
def advanceOf (s : State) (cls : IntervalClass) (angles : Option (Nat × Nat)) : Advance :=
  { state := s.clock.sync, time := s.clock.lastTooth, cls := cls, period := s.clock.period, angles := angles,
    cycle := s.clock.cycle }

/-- The first tooth after STOPPED (R3). -/
def firstTooth (s : State) : State :=
  let s := s.acceptTooth .none 0
  (s.setClock { s.clock with period := none, normalSeen := false }).changeSync .hunt

/-- An accepted tooth by the rule of the sync state: the state, and the angles of its advance (R3 to R6). -/
def takeTooth (s : State) (cls : IntervalClass) : State × Option (Nat × Nat) :=
  match s.clock.sync with
  | .stopped => (s, none)
  | .hunt => (s.huntTooth cls, none)
  | .gapFound => (s.gapFoundTooth cls, none)
  | .synced => s.syncedTooth cls

/-- A crank edge, arriving at the time base as it stands (R1 to R6, R15): the rule of the sync state, then the advance, with the faults of the
clock among those the fault unit takes in the order of the turns (R140). -/
def crankEdge (s : State) (o : List EdgeTurn) : State :=
  if !s.engine.valid then s
  else if s.clock.sync = .stopped then
    let s := s.firstTooth
    s.takeAdvance o (s.advanceOf .none none)
  else
    let interval := passedBy s.timeBase s.clock.lastTooth
    if discarded s.clock.period interval then s
    else
      let cls := classify s.clock.period interval
      let (s, angles) := (s.acceptTooth cls interval).takeTooth cls
      s.takeAdvance o (s.advanceOf cls angles)

/-- A cam edge in GAP_FOUND that finds the revolution (R12). -/
def findPhase (s : State) (revolution : Fin 2) : State :=
  (s.setClock
    { s.clock with
      revolution := revolution
      lastAngle := s.clock.lastAngle + Config.revolutionSteps * revolution.val
      cam := { seen := true, good := true, opposite := false, verdict := false } }).changeSync .synced

/-- A cam edge in SYNCED placed at a cycle angle (R13). -/
def classifyCam (s : State) (a : Nat) : State :=
  let lo := s.engine.config.camLo
  let hi := s.engine.config.camHi
  let h := s.clock.cam
  if inCamWindow lo hi a then s.setClock { s.clock with cam := { h with seen := true, good := true } }
  else if inCamWindow lo hi (modCycle ((a : Int) + (Config.revolutionSteps : Int))) then
    s.setClock { s.clock with cam := { h with seen := true, opposite := true } }
  else (s.raiseFault .camFault none none).setClock { s.clock with cam := { h with seen := true } }

/-- A cam edge, arriving at the time base as it stands (R12, R13). -/
def camEdge (s : State) : State :=
  let lo := s.engine.config.camLo
  let hi := s.engine.config.camHi
  let r := s.clock.interpolated s.timeBase
  match s.clock.sync with
  | .stopped | .hunt => s
  | .gapFound =>
    if inCamWindow lo hi r then s.findPhase 0
    else if inCamWindow lo hi (r + Config.revolutionSteps) then s.findPhase 1
    else s
  | .synced => s.classifyCam r

/-- The clock enters STOPPED from HUNT, GAP_FOUND or SYNCED: the leaving-SYNCED notice when it was SYNCED, then the stopped notice
(R8, R9, R104). -/
def enterStopped (s : State) : State :=
  let wasSynced := s.clock.sync == .synced
  let s := (s.setClock { s.clock with period := none, normalSeen := false, cam := emptyCam, stall := none }).changeSync
    .stopped
  let s := if wasSynced then s.leavingSynced else s
  s.clearCarry

/-- The stall expiry (R7); nothing when no armed expiry has been reached (DESIGN CHOICE, log 4). -/
def stallExpiry (s : State) : State :=
  match s.clock.sync, s.clock.stall with
  | .stopped, _ => s
  | _, some ends => if reached s.timeBase ends then s.enterStopped else s
  | _, none => s

end State

end Sys2Proof.Machine
end

