-- ==== Sys2Proof/Machine/Timers.lean ====
section
/-! DEFINITION. The part's own clock: its armed timers (R25), how it is brought to the time a command is taken at (DESIGN
CHOICE, log 2), and what it does when no command waits (DESIGN CHOICE, log 3). -/

namespace Sys2Proof.Machine

/-- The events the part times itself (R25). -/
inductive Timer where
  | peakDeadline (b : Bank)
  | pulseEnd (b : Bank)
  | recoveryEnd (b : Bank)
  | start (b : Bank)
  | stall
deriving DecidableEq, Repr

/-- The timers in the order in which those due at one time are taken (DESIGN CHOICE, log 2). -/
def allTimers : List Timer :=
  [.peakDeadline .bankA, .peakDeadline .bankB, .pulseEnd .bankA, .pulseEnd .bankB, .recoveryEnd .bankA, .recoveryEnd .bankB,
   .start .bankA, .start .bankB, .stall]

namespace State

/-- The planned start of the head of an IDLE bank's waiting list (R114). -/
def headStart (s : State) (b : Bank) : Option Time :=
  match (s.drivers.get b).state, (s.drivers.get b).waiting with
  | .idle, e :: _ =>
    match s.pool.find e.slot with
    | some r =>
      match r.phase with
      | .released _ planned => some planned
      | _ => none
    | none => none
  | _, _ => none

/-- The time a timer is armed for; none while it is not armed. -/
def armed (s : State) : Timer → Option Time
  | .peakDeadline b => (s.runningPulse b).bind fun p => p.deadline
  | .pulseEnd b => (s.runningPulse b).map fun p => p.ends
  | .recoveryEnd b =>
    match (s.drivers.get b).state with
    | .recovery ends => some ends
    | _ => none
  | .start b => s.headStart b
  | .stall => if s.clock.sync = .stopped then none else s.clock.stall

/-- How many microseconds from now a timer expires. -/
def timerDelay (s : State) (k : Timer) : Option Nat := (s.armed k).map fun x => dueIn s.timeBase x

/-- The timer that expires next and its delay; the first in the order of `allTimers` among those due at one time. -/
def nextTimer (s : State) : Option (Timer × Nat) :=
  allTimers.foldl (fun best k =>
    match s.timerDelay k, best with
    | some d, some (k', d') => if d < d' then some (k, d) else some (k', d')
    | some d, none => some (k, d)
    | none, best => best) none

/-- The expiry of a timer. -/
def runTimer (s : State) : Timer → State
  | .peakDeadline b => s.peakExpiry b
  | .pulseEnd b => s.pulseExpiry b
  | .recoveryEnd b => s.recoveryExpiry b
  | .start b => s.decideNow b
  | .stall => s.stallExpiry

/-- The part brought to a time: every timer that expires strictly before it is taken at its own time, the earliest first (DESIGN
CHOICE, logs 2 and 20). The first argument bounds the number of expiries. -/
def arriveWithin : Nat → Time → State → State
  | 0, t, s => s.setTimeBase t
  | n + 1, t, s =>
    match s.nextTimer with
    | some (k, d) =>
      if d < (t - s.timeBase).toNat then arriveWithin n t ((s.setTimeBase (after s.timeBase d)).runTimer k)
      else s.setTimeBase t
    | none => s.setTimeBase t

/-- The part as its own clock brings it to time `t`, right before the command taken at `t` (DESIGN CHOICE, log 2). -/
def arrive (s : State) (t : Time) : State := arriveWithin Config.timerFuel t s

/-- What the part does when no command waits: a timer due now expires, else the placement unit takes a waiting request, else one
microsecond passes (R24, R72; DESIGN CHOICE, log 3). -/
def idle (s : State) : State :=
  match s.nextTimer with
  | some (k, 0) => s.runTimer k
  | _ =>
    match s.nextTake with
    | some _ => s.take
    | none => s.setTimeBase (after s.timeBase 1)

/-- A frame of a command taken at `t` on a link: ignored while the port waits for SEL_N to rise (R155), refused when the link may not carry
the command (R158, test 4), and else acted on; the response replaces the pending one (R156). -/
def onFrame (s : State) (t : Time) (l : Link) (n : CommandName) (act : State → State × Status × Data) : State :=
  let s := s.arrive t
  if (s.links.get l).ignoring then s.setLink l { s.links.get l with ignoring := false }
  else if permitted n l then
    let (s, status, data) := act s
    s.respond l status (commandCode n) data
  else s.respond l .notPermitted (commandCode n) 0

end State

end Sys2Proof.Machine
end

