-- ==== Sys2Proof/Machine/Resets.lean ====
section
/-! DEFINITION. The port resets (R75 and the rules it names) and the soft reset (R139). -/

namespace Sys2Proof.Machine
namespace State

/-- A link's answer log emptied and its sticky flags cleared, its notice enables kept (R149, R154). -/
def clearLink (s : State) (l : Link) : State :=
  s.setLink l { s.links.get l with log := [], sticky := 0 }

/-- A request port emptied and made QUIET, its watermark kept; the fuel run count set to 0 (R75). -/
def clearPort (s : State) (o : Owner) : State :=
  let s := s.setPort o { s.staging.get o with state := .quiet, queue := [] }
  s.setStaging { s.staging with fuelRun := 0 }

/-- The mark units of a link freed (R19). -/
def freeMarks (s : State) (l : Link) : State :=
  s.setMarks <| s.marks.map fun _ u =>
    match u with
    | some u => if u.owner = l then none else some u
    | none => none

/-- The timeline's part of a port reset: the owner's PENDING records freed, its RELEASED and FIRING records marked final (R54). -/
def resetRecords (s : State) (o : Owner) : State :=
  (s.freeSlots (s.slotsWhere fun r => r.owner == o && r.isPending)).mapRecords fun r =>
    if r.owner = o then r.markFinal else r

/-- A port reset of a request link (R19, R54, R61, R75, R104, R149, R154). -/
def resetRequestLink (s : State) (o : Owner) : State :=
  let s := (((s.clearPort o).clearLink o.link).freeMarks o.link).resetRecords o
  if o = .fuel then s.clearCarry else s

/-- The number of records that satisfy a test. -/
def countRecords (s : State) (t : Record → Bool) : Nat := s.pool.records.countP t

/-- A soft reset (R53, R76, R139): both request ports and all three links cleared, PENDING and RELEASED records freed in the order of
R53, FIRING records marked final, all marks freed, carry entries cleared. -/
def softResetAll (s : State) : State :=
  let s := (((s.clearPort .fuel).clearPort .thermal).clearLink .fuel).clearLink .thermal
  let s := (s.clearLink .supervisor).setMarks (Eight.all none)
  let s := s.freeSlots (s.slotsWhere fun r => !r.isFiring)
  (s.mapRecords Record.markFinal).clearCarry

end State
end Sys2Proof.Machine
end

