-- ==== Sys2Proof/Machine/Events.lean ====
section
/-! DEFINITION. The meanings of the commands that no frame carries: the power-on reset, the edges of the input lines, the expiries of
the part's timers, and the takes of the placement unit. -/

namespace Sys2Proof.Machine

/-! ### RESET_N -/

namespace State

/-- The power-on state with the STAGE_FAULT and SEL_N lines at their levels at the release of RESET_N, before any STAGE_FAULT is raised
(R55 and the reset rules of each block; R155). The queue of waiting commands is no part of the block. -/
def poweredOn (s : State) (lines : ResetLines) : State :=
  { reset with
    pending := s.pending
    links :=
      { fuel := { resetLink with ignoring := lines.fuelSelected }
        thermal := { resetLink with ignoring := lines.thermalSelected }
        supervisor := { resetLink with ignoring := lines.supervisorSelected } } }

end State

/-- POWER_ON_RESET: a STAGE_FAULT line found asserted is a change to asserted at that moment (R55, R118). -/
def execPowerOnReset (lines : ResetLines) (s : State) : Host.Outcome State Fault Refusal :=
  let s := s.poweredOn lines
  let s := if lines.stageFaultA then s.assertStage .bankA else s
  .next (if lines.stageFaultB then s.assertStage .bankB else s)

/-! ### The sensors and the power stage -/

/-- CRANK_EDGE (R1 to R6, R15, R101, R22, R128, R114). -/
def execCrankEdge (t : Time) (order : List EdgeTurn) (s : State) : Host.Outcome State Fault Refusal :=
  .next ((s.arrive t).crankEdge order)

/-- CAM_EDGE (R12, R13). -/
def execCamEdge (t : Time) (s : State) : Host.Outcome State Fault Refusal :=
  .next (s.arrive t).camEdge

/-- PEAK_EDGE (R116). -/
def execPeakEdge (t : Time) (b : Bank) (s : State) : Host.Outcome State Fault Refusal :=
  .next ((s.arrive t).peakEdge b)

/-- STAGE_FAULT_ASSERTION (R118). -/
def execStageFaultAssertion (t : Time) (b : Bank) (s : State) : Host.Outcome State Fault Refusal :=
  .next ((s.arrive t).assertStage b)

/-- STAGE_FAULT_NEGATION (R118). -/
def execStageFaultNegation (t : Time) (b : Bank) (s : State) : Host.Outcome State Fault Refusal :=
  .next ((s.arrive t).setStageLine b false)

/-! ### The part's timers -/

/-- STALL_EXPIRY (R7, R8). -/
def execStallExpiry (t : Time) (s : State) : Host.Outcome State Fault Refusal :=
  .next (s.arrive t).stallExpiry

/-- START_DECISION (R114). -/
def execStartDecision (t : Time) (b : Bank) (s : State) : Host.Outcome State Fault Refusal :=
  .next ((s.arrive t).decideNow b)

/-- END_OF_PULSE (R119). -/
def execEndOfPulse (t : Time) (b : Bank) (s : State) : Host.Outcome State Fault Refusal :=
  .next ((s.arrive t).pulseExpiry b)

/-- PEAK_DEADLINE (R117). -/
def execPeakDeadline (t : Time) (b : Bank) (s : State) : Host.Outcome State Fault Refusal :=
  .next ((s.arrive t).peakExpiry b)

/-- RECOVERY_END (R120). -/
def execRecoveryEnd (t : Time) (b : Bank) (s : State) : Host.Outcome State Fault Refusal :=
  .next ((s.arrive t).recoveryExpiry b)

/-! ### The placement unit -/

namespace State

/-- A take of one kind of request: nothing when the request the arbiter would take next is of another kind, or none waits (R72;
DESIGN CHOICE, log 4). -/
def takeOf (s : State) (isKind : Staged → Bool) : State :=
  match s.nextTake with
  | some (_, _, x) => if isKind x then s.take else s
  | none => s

end State

/-- TAKE_PLACE (R72, R73, R78). -/
def execTakePlace (t : Time) (s : State) : Host.Outcome State Fault Refusal :=
  .next ((s.arrive t).takeOf fun x => match x with | .place _ => true | _ => false)

/-- TAKE_AMEND (R72, R73, R97). -/
def execTakeAmend (t : Time) (s : State) : Host.Outcome State Fault Refusal :=
  .next ((s.arrive t).takeOf fun x => match x with | .amend _ => true | _ => false)

/-- TAKE_WITHDRAW (R72, R73, R99). -/
def execTakeWithdraw (t : Time) (s : State) : Host.Outcome State Fault Refusal :=
  .next ((s.arrive t).takeOf fun x => match x with | .withdraw _ => true | _ => false)

end Sys2Proof.Machine
end

