-- ==== Sys2Proof/Machine/LinkCommands.lean ====
section
/-! DEFINITION. The meanings of the immediate commands that every link carries: NOP, the reads, POP_LOG, ACK_EVENTS, SET_NOTICE_ENABLES,
PORT_RESET, SET_MARK and CLEAR_MARK. -/

namespace Sys2Proof.Machine

/-- What a command answers: the state after it, the status and the response data. -/
abbrev Answer := State × Status × Data

/-- A refusal by the owning block: nothing changes, and the data is 0 (R162). -/
def refuse (s : State) (status : Status) : Answer := (s, status, 0)

/-! ### Reads -/

namespace State

/-- READ_STATUS, part EVENTS (R153, R162). -/
def statusEvents (s : State) (l : Link) : Data :=
  dataOf (bytes2 (s.flags l).toNat ++ bytes2 (s.links.get l).enables.toNat
    ++ [byte (bitAt (s.noticeLine l) 0), byte (s.links.get l).log.length])

/-- READ_STATUS, part PORT (R77, R162). -/
def statusPort (s : State) (o : Owner) : Data :=
  dataOf [byte (s.staging.get o).state.code, byte (s.stagingCount o), byte (s.staging.get o).watermark]

/-- READ_STATUS, part LIMITS (R125, R162). -/
def statusLimits (s : State) : Data :=
  dataOf (bytes2 s.limits.overspeed ++ bytes2 s.limits.budget
    ++ [byte s.limits.fuelCeiling, byte s.limits.thermalCeiling, byte s.limits.reserve, s.limits.enables,
        byte (bitAt s.limits.overspeedActive 0)])

/-- READ_STATUS (R77, R153). -/
def readStatus (s : State) (l : Link) (part : Byte) : Answer :=
  match statusPartOf part, requestLink l with
  | some .events, _ => (s, .ok, s.statusEvents l)
  | some .port, some o => (s, .ok, s.statusPort o)
  | some .limits, none => (s, .ok, s.statusLimits)
  | _, _ => refuse s .badArgument

/-- The angle READ_ANGLE returns: the interpolated angle, 0 in STOPPED and HUNT (R17). -/
def angleRead (s : State) : Nat :=
  match s.clock.sync with
  | .stopped | .hunt => 0
  | .gapFound | .synced => s.clock.interpolated s.timeBase

/-- READ_ANGLE (R17, R162). -/
def readAngle (s : State) : Answer :=
  (s, .ok, dataOf (bytes2 (s.clock.sync.code * 16384 + s.angleRead) ++ bytes2 s.clock.cycle.toNat
    ++ bytes5 (s.clock.period.getD 0 * 1048576 + s.clock.rpm)))

/-- A record read with its home, part PLACED (R57, R162). The priority is read as its stored four bits, the width of its item; a larger number,
which the store cannot hold, reads as those bits (DESIGN CHOICE, logs 8 and 23). -/
def placedData (home : Nat) (r : Record) : Data :=
  dataOf ([byte (home * 64 + r.phase.code * 16 + r.owner.code * 4 + bitAt r.carried 1 + bitAt r.report 0), r.tag,
    byte (cylinderNumber r.cylinder * 16 + r.priority % 16), byte r.kind.code] ++ signed2 r.offset ++ bytes2 r.duration
    ++ [byte r.repeats])

/-- The released duration of a record, 0 while PENDING (R42, R57). -/
def releasedDuration (r : Record) : Nat :=
  match r.phase with
  | .pending => 0
  | .released f _ => f.duration
  | .firing f _ => f.duration

/-- The planned start of a RELEASED record, the actual start of a FIRING one, 0 while PENDING (R57). -/
def phaseTime (r : Record) : Nat :=
  match r.phase with
  | .pending => 0
  | .released _ planned => planned.toNat
  | .firing _ actual => actual.toNat

/-- A record read with its home, part TIMING (R57, R162). -/
def timingData (home : Nat) (r : Record) : Data :=
  dataOf ([byte (home * 64 + r.phase.code * 16 + bitAt r.shortened 1 + bitAt r.final 0)] ++ bytes2 r.start
    ++ bytes2 (releasedDuration r) ++ bytes4 (phaseTime r))

/-- The record a slot holds with the code of its home: CYLINDER 2, QUARANTINED 3; none for a free slot (R57, R162). -/
def slotContents (s : State) (k : Slot) : Option (Nat × Record) :=
  match s.pool.find k with
  | some r => some (2, r)
  | none => (s.pool.quarantine.find? fun r => r.slot == k).map fun r => (3, r)

/-- READ_RECORD (R57). -/
def readRecord (s : State) (slot part : Byte) : Answer :=
  match slotOf slot.toNat, recordPartOf part with
  | some k, some p =>
    match s.slotContents k with
    | none => (s, .ok, dataOf [byte 64])
    | some (home, r) =>
      match p with
      | .placed => (s, .ok, placedData home r)
      | .timing => (s, .ok, timingData home r)
  | _, _ => refuse s .badArgument

/-- The slot at the head of a list of records. -/
def headSlot (rs : List Record) : Option Slot := rs.head?.map fun r => r.slot

/-- The length of a cylinder list, 0 for a cylinder that is not configured (R58). -/
def listLength (s : State) (c : Cylinder) : Nat := if s.configured.contains c then (s.pool.lists.get c).length else 0

/-- READ_CYLINDER 1 to 8, part TOTALS (R58, R162): bank and TDC read 0 for a cylinder that is not configured. -/
def totalsData (s : State) (c : Cylinder) : Data :=
  let e := s.table.get c
  let known := s.configured.contains c
  dataOf ([byte (bitAt (s.enabled c) 7 + (if known then bankCode e.bank else 0) * 32 + s.listLength c * 4 + e.streak)]
    ++ bytes2 (if known then e.tdc else 0) ++ bytes2 e.released ++ bytes2 e.fired ++ bytes2 e.lastFired)

/-- READ_CYLINDER 1 to 8, part CARRY (R58, R162). -/
def carryData (s : State) (c : Cylinder) : Data :=
  let e := s.table.get c
  let entry := e.carry.getD { offset := 0, duration := 0 }
  dataOf ([byte (bitAt e.carry.isSome 0)] ++ signed2 entry.offset ++ bytes2 entry.duration
    ++ [byte e.carryCount, byte (slotItem (headSlot (s.pool.lists.get c)))])

/-- READ_CYLINDER 0, the pool summary (R59, R162). -/
def summaryData (s : State) : Data :=
  let len (c : Cylinder) : Nat := (s.pool.lists.get c).length
  dataOf [byte s.pool.free.length, byte s.pool.quarantine.length, byte (len 0 * 16 + len 1), byte (len 2 * 16 + len 3),
    byte (len 4 * 16 + len 5), byte (len 6 * 16 + len 7), byte (slotItem s.pool.free.head?),
    byte (slotItem (headSlot s.pool.quarantine))]

/-- READ_CYLINDER (R58, R59). -/
def readCylinder (s : State) (cylinder part : Byte) : Answer :=
  if cylinder = 0 then (s, .ok, s.summaryData)
  else match cylinderOf cylinder.toNat, cylinderPartOf part with
    | some c, some .totals => (s, .ok, s.totalsData c)
    | some c, some .carry => (s, .ok, s.carryData c)
    | _, _ => refuse s .badArgument

/-! ### Logs, flags and enables -/

/-- POP_LOG (R148, R164). -/
def popLog (s : State) (l : Link) : Answer :=
  match (s.links.get l).log with
  | [] => (s, .empty, 0)
  | e :: rest => (s.setLink l { s.links.get l with log := rest }, .ok, e.data)

/-- ACK_EVENTS (R150). -/
def ackEvents (s : State) (l : Link) (written : Word16) : Answer :=
  let s := s.clearFlags l (written.setWidth 11)
  (s, .ok, dataOf (bytes2 (s.flags l).toNat))

/-- SET_NOTICE_ENABLES (R152). -/
def setNoticeEnables (s : State) (l : Link) (written : Word16) : Answer :=
  let s := s.setLink l { s.links.get l with enables := written.setWidth 11 &&& linkFlags l }
  (s, .ok, dataOf (bytes2 (s.links.get l).enables.toNat ++ bytes2 (s.flags l).toNat))

/-- PORT_RESET (R19, R54, R61, R75, R149, R154). -/
def portReset (s : State) (l : Link) : Answer :=
  match requestLink l with
  | some o => (s.resetRequestLink o, .ok, dataOf [byte (s.stagingCount o)])
  | none => (s.clearLink l, .ok, 0)

/-! ### The mark units -/

/-- The lowest-numbered free mark unit (R20). -/
def freeMark (s : State) : Option MarkIndex := allMarks.find? fun i => (s.marks.get i).isNone

/-- SET_MARK (R20). -/
def setMark (s : State) (l : Link) (mask : Byte) (offset : Word16) (mode : Byte) : Answer :=
  match markModeOf mode with
  | none => refuse s .badArgument
  | some m =>
    if mask = 0 ∨ offset.toInt < -5760 ∨ 5759 < offset.toInt then refuse s .badArgument
    else match s.freeMark with
      | none => refuse s .noMarkFree
      | some i =>
        (s.setMarks (s.marks.set i (some { owner := l, mask := mask, offset := offset.toInt, mode := m })), .ok,
          dataOf [byte i.val])

/-- CLEAR_MARK (R21). -/
def clearMark (s : State) (l : Link) (unit : Byte) : Answer :=
  match markOf unit.toNat with
  | none => refuse s .badArgument
  | some i =>
    match s.marks.get i with
    | none => refuse s .notOwner
    | some u => if u.owner = l then (s.setMarks (s.marks.set i none), .ok, 0) else refuse s .notOwner

end State

/-! ### The meanings -/

/-- NOP (R160). -/
def execNop (t : Time) (l : Link) (s : State) : Host.Outcome State Fault Refusal :=
  .next (s.onFrame t l .nop fun s => (s, .ok, 0))

/-- READ_STATUS (R153). -/
def execReadStatus (t : Time) (l : Link) (part : Byte) (s : State) : Host.Outcome State Fault Refusal :=
  .next (s.onFrame t l .readStatus fun s => s.readStatus l part)

/-- READ_TIME (R24). -/
def execReadTime (t : Time) (l : Link) (s : State) : Host.Outcome State Fault Refusal :=
  .next (s.onFrame t l .readTime fun s => (s, .ok, dataOf (bytes4 s.timeBase.toNat)))

/-- READ_ANGLE (R17). -/
def execReadAngle (t : Time) (l : Link) (s : State) : Host.Outcome State Fault Refusal :=
  .next (s.onFrame t l .readAngle fun s => s.readAngle)

/-- READ_RECORD (R57). -/
def execReadRecord (t : Time) (l : Link) (slot part : Byte) (s : State) : Host.Outcome State Fault Refusal :=
  .next (s.onFrame t l .readRecord fun s => s.readRecord slot part)

/-- READ_CYLINDER (R58, R59). -/
def execReadCylinder (t : Time) (l : Link) (cylinder part : Byte) (s : State) : Host.Outcome State Fault Refusal :=
  .next (s.onFrame t l .readCylinder fun s => s.readCylinder cylinder part)

/-- POP_LOG (R148). -/
def execPopLog (t : Time) (l : Link) (s : State) : Host.Outcome State Fault Refusal :=
  .next (s.onFrame t l .popLog fun s => s.popLog l)

/-- ACK_EVENTS (R150). -/
def execAckEvents (t : Time) (l : Link) (flags : Word16) (s : State) : Host.Outcome State Fault Refusal :=
  .next (s.onFrame t l .ackEvents fun s => s.ackEvents l flags)

/-- SET_NOTICE_ENABLES (R152). -/
def execSetNoticeEnables (t : Time) (l : Link) (flags : Word16) (s : State) : Host.Outcome State Fault Refusal :=
  .next (s.onFrame t l .setNoticeEnables fun s => s.setNoticeEnables l flags)

/-- PORT_RESET (R75). -/
def execPortReset (t : Time) (l : Link) (s : State) : Host.Outcome State Fault Refusal :=
  .next (s.onFrame t l .portReset fun s => s.portReset l)

/-- SET_MARK (R20). -/
def execSetMark (t : Time) (l : Link) (mask : Byte) (offset : Word16) (mode : Byte) (s : State) :
    Host.Outcome State Fault Refusal :=
  .next (s.onFrame t l .setMark fun s => s.setMark l mask offset mode)

/-- CLEAR_MARK (R21). -/
def execClearMark (t : Time) (l : Link) (unit : Byte) (s : State) : Host.Outcome State Fault Refusal :=
  .next (s.onFrame t l .clearMark fun s => s.clearMark l unit)

end Sys2Proof.Machine
end

