-- ==== Sys2Proof/Machine/Configuration.lean ====
section
/-! DEFINITION. The meanings of CONFIG_WRITE, CONFIG_READ and COMMIT_CONFIG (chapter 10), with the consistency checks and the derived
values (R26, R27, R60, R170). -/

namespace Sys2Proof.Machine

/-! ### Consistency (R170) -/

/-- The entries of the firing order that name the configured cylinders (R27, R170). -/
def EngineConfig.orderNumbers (c : EngineConfig) : List Nat :=
  (c.firingOrder.toList.take c.cylinderCount).map fun e => e.val

/-- Check 1: entries 0 to N−1 hold each of cylinders 1 to N once (R170). -/
def EngineConfig.orderOk (c : EngineConfig) : Bool :=
  (List.range c.cylinderCount).all fun i => c.orderNumbers.count (i + 1) == 1

/-- Check 2: among cylinders 1 to N at least one is on each bank (R170). -/
def EngineConfig.banksOk (c : EngineConfig) : Bool :=
  ((List.range c.cylinderCount).any fun i => c.bankMap.getLsbD i)
    && (List.range c.cylinderCount).any fun i => !c.bankMap.getLsbD i

/-- Check 3: the span of the cam window is 1 to 5,759 (R170). -/
def EngineConfig.camOk (c : EngineConfig) : Bool :=
  decide (1 ≤ angleFrom c.camHi c.camLo) && decide (angleFrom c.camHi c.camLo ≤ 5759)

/-- The item code of the first check that fails (R170). -/
def EngineConfig.inconsistent (c : EngineConfig) : Option Nat :=
  if !c.orderOk then some 2
  else if !c.banksOk then some 3
  else if !c.camOk then some 5
  else if c.preWindow.hi < c.preWindow.lo then some 13
  else if c.mainWindow.hi < c.mainWindow.lo then some 14
  else if c.afterWindow.hi < c.afterWindow.lo then some 15
  else if c.lateWindow.hi < c.lateWindow.lo then some 16
  else none

/-! ### Derived values (R26, R27, R30, R31, R60) -/

/-- The configured cylinders in order of firing position (R27). -/
def EngineConfig.order (c : EngineConfig) : List Cylinder := c.orderNumbers.filterMap cylinderOf

/-- The derived values (R26). -/
def EngineConfig.derive (c : EngineConfig) : Geometry :=
  { order := c.order
    pw := placementPeriod c.speed
    dwellSpan := span (placementPeriod c.speed) c.minDwell
    recoverySpan := span (placementPeriod c.speed) c.bankRecovery }

/-- A cylinder's status entry at a commit (R60). -/
def EngineConfig.entry (c : EngineConfig) (i : Cylinder) (e : CylinderStatus) : CylinderStatus :=
  let known := c.order.contains i
  { bank := if known then some (if inMask c.bankMap i then .bankB else .bankA) else none
    tdc := if known then tdcAt c.tdc1 (c.order.idxOf i) c.cylinderCount else 0
    released := 0, fired := 0, lastFired := 0, carry := none, carryCount := 0, streak := e.streak }

/-! ### The commands -/

namespace State

/-- The refusal of a write or commit while the clock is not STOPPED or a cylinder list holds a record (R167, R170). -/
def configRefusal (s : State) : Option Status :=
  if s.clock.sync ≠ .stopped then some .engineRunning
  else if s.pool.records ≠ [] then some .timelineBusy
  else none

/-- CONFIG_WRITE (R167). -/
def configWrite (s : State) (item : Byte) (value : Data) : Answer :=
  match s.configRefusal with
  | some status => refuse s status
  | none =>
    match s.engine.config.write item.toNat value with
    | none => refuse s .badArgument
    | some c => (s.setEngine { config := c, valid := false, geometry := none }, .ok, dataOf [item, byte 0])

/-- CONFIG_READ (R169). -/
def configRead (s : State) (item : Byte) : Answer :=
  match s.engine.config.read item.toNat with
  | none => refuse s .badArgument
  | some bs => (s, .ok, dataOf (byte (bitAt s.engine.valid 0) :: bs))

/-- COMMIT_CONFIG (R60, R170). -/
def commitConfig (s : State) : Answer :=
  match s.configRefusal with
  | some status => refuse s status
  | none =>
    let c := s.engine.config
    match c.inconsistent with
    | some item => (s, .configInconsistent, dataOf [byte item])
    | none =>
      ((s.setEngine { config := c, valid := true, geometry := some c.derive }).setTable (s.table.map c.entry), .ok,
        dataOf [byte 1, byte c.cylinderCount])

end State

/-- CONFIG_WRITE (R167). -/
def execConfigWrite (t : Time) (l : Link) (item : Byte) (value : Data) (s : State) : Host.Outcome State Fault Refusal :=
  .next (s.onFrame t l .configWrite fun s => s.configWrite item value)

/-- CONFIG_READ (R169). -/
def execConfigRead (t : Time) (l : Link) (item : Byte) (s : State) : Host.Outcome State Fault Refusal :=
  .next (s.onFrame t l .configRead fun s => s.configRead item)

/-- COMMIT_CONFIG (R170). -/
def execCommitConfig (t : Time) (l : Link) (s : State) : Host.Outcome State Fault Refusal :=
  .next (s.onFrame t l .commitConfig fun s => s.commitConfig)

end Sys2Proof.Machine
end

