-- ==== Sys2Proof/Machine/StagingCommands.lean ====
section
/-! DEFINITION. The meanings of the commands of the request links: SET_PORT_STATE, CLEAR_STAGING and the intake of PLACE, AMEND and
WITHDRAW (chapter 4). -/

namespace Sys2Proof.Machine
namespace State

/-- SET_PORT_STATE on a request link (R63). -/
def setPortState (s : State) (o : Owner) (state watermark : Byte) : Answer :=
  match portStateOf state with
  | none => refuse s .badArgument
  | some named =>
    if Config.stagingDepth < watermark.toNat then refuse s .badArgument
    else
      let p := s.staging.get o
      let s := s.setPort o
        { p with
          state := named.getD p.state
          watermark := if watermark = 0 then p.watermark else watermark.toNat }
      (s, .ok, dataOf [byte (s.staging.get o).state.code, byte (s.staging.get o).watermark, byte (s.stagingCount o)])

/-- CLEAR_STAGING on a request link (R71). -/
def clearStaging (s : State) (o : Owner) : Answer :=
  (s.setPort o { s.staging.get o with queue := [] }, .ok, dataOf [byte (s.stagingCount o)])

/-- The intake of a staged command (R65; the place of the staging count in the data is DEDUCED, log 15). -/
def intake (s : State) (o : Owner) (x : Staged) : Answer :=
  if (s.staging.get o).state = .quiet then (s, .portQuiet, dataOf [byte (s.stagingCount o)])
  else if s.stagingCount o < Config.stagingDepth then
    let s := s.setPort o { s.staging.get o with queue := (s.staging.get o).queue ++ [x] }
    (s, .ok, dataOf [byte (s.stagingCount o)])
  else (s, .stagingFull, dataOf [byte (s.stagingCount o)])

/-- A command of a request link; the supervisor link, which the link port refuses before, has no port to act on. -/
def onRequestLink (s : State) (l : Link) (act : Owner → Answer) : Answer :=
  match requestLink l with
  | some o => act o
  | none => refuse s .notPermitted

end State

/-- SET_PORT_STATE (R63). -/
def execSetPortState (t : Time) (l : Link) (state watermark : Byte) (s : State) : Host.Outcome State Fault Refusal :=
  .next (s.onFrame t l .setPortState fun s => s.onRequestLink l fun o => s.setPortState o state watermark)

/-- CLEAR_STAGING (R71). -/
def execClearStaging (t : Time) (l : Link) (s : State) : Host.Outcome State Fault Refusal :=
  .next (s.onFrame t l .clearStaging fun s => s.onRequestLink l fun o => s.clearStaging o)

/-- PLACE (R65, R67). -/
def execPlace (t : Time) (l : Link) (r : PlaceRequest) (s : State) : Host.Outcome State Fault Refusal :=
  .next (s.onFrame t l .place fun s => s.onRequestLink l fun o => s.intake o (.place r))

/-- AMEND (R65, R68). -/
def execAmend (t : Time) (l : Link) (r : AmendRequest) (s : State) : Host.Outcome State Fault Refusal :=
  .next (s.onFrame t l .amend fun s => s.onRequestLink l fun o => s.intake o (.amend r))

/-- WITHDRAW (R65, R69). -/
def execWithdraw (t : Time) (l : Link) (r : WithdrawRequest) (s : State) : Host.Outcome State Fault Refusal :=
  .next (s.onFrame t l .withdraw fun s => s.onRequestLink l fun o => s.intake o (.withdraw r))

end Sys2Proof.Machine
end

