-- ==== Sys2Proof/Machine/Supervisor.lean ====
section
/-! DEFINITION. The meanings of the supervisor link's commands on the limits, the timeline, the fault unit and the ports (chapters 3, 7
and 8). -/

namespace Sys2Proof.Machine

/-! ### The limit set -/

/-- The range of a limit (R125). -/
def LimitItem.range : LimitItem → Nat × Nat
  | .overspeedLimit => (500, 4000)
  | .budget => (0, 8000)
  | .fuelCeiling => (1, 15)
  | .thermalCeiling => (1, 15)
  | .reserve => (0, 16)

/-- The limit set with one item written (R126). -/
def Limits.write (x : Limits) (i : LimitItem) (v : Nat) : Limits :=
  match i with
  | .overspeedLimit => { x with overspeed := v }
  | .budget => { x with budget := v }
  | .fuelCeiling => { x with fuelCeiling := v }
  | .thermalCeiling => { x with thermalCeiling := v }
  | .reserve => { x with reserve := v }

/-- A value brought into the range of a limit (R126). -/
def LimitItem.clamp (i : LimitItem) (v : Nat) : Nat := max i.range.1 (min i.range.2 v)

namespace State

/-- SET_LIMIT (R126, R127). -/
def setLimit (s : State) (item : Byte) (value : Word16) : Answer :=
  match limitItemOf item with
  | none => refuse s .badArgument
  | some i =>
    let v := i.clamp value.toNat
    (s.setLimits (s.limits.write i v), if v = value.toNat then .ok else .clamped, dataOf (byte i.code :: bytes2 v))

/-- SET_ENABLE_MASK (R132). -/
def setEnableMask (s : State) (mask : Byte) : Answer :=
  let s := s.setLimits { s.limits with enables := mask }
  let s := s.setTable (s.table.map fun c e => if inMask mask c then { e with streak := 0 } else e)
  (s, .ok, dataOf [mask])

/-! ### CUT_NOW (R134) -/

/-- The running pulse of a bank truncated when it belongs to a named cylinder (R134). -/
def cutPulse (s : State) (mask : Byte) (b : Bank) : State × Nat :=
  match s.firingCylinder b with
  | some c => if inMask mask c then (s.endPulse b .cut, 1) else (s, 0)
  | none => (s, 0)

/-- The slots of a bank's waiting list whose records belong to named cylinders, from head to tail (R134). -/
def cutSlots (s : State) (mask : Byte) (b : Bank) : List Slot :=
  ((s.drivers.get b).waiting.map fun e => e.slot).filter fun k =>
    match s.pool.find k with
    | some r => inMask mask r.cylinder
    | none => false

/-- One bank visited by CUT_NOW: the state, the pulses truncated and the records suppressed (R134). -/
def cutBank (s : State) (mask : Byte) (b : Bank) : State × Nat × Nat :=
  let (s, truncated) := s.cutPulse mask b
  let ks := s.cutSlots mask b
  (ks.foldl (fun s k => s.suppressReleased k .cut) s, truncated, ks.length)

/-- CUT_NOW (R134). -/
def cutNow (s : State) (mask : Byte) : Answer :=
  let s := s.setLimits { s.limits with enables := s.limits.enables &&& ~~~mask }
  let (s, truncatedA, suppressedA) := s.cutBank mask .bankA
  let (s, truncatedB, suppressedB) := s.cutBank mask .bankB
  (s, .ok, dataOf [byte (truncatedA + truncatedB), byte (suppressedA + suppressedB)])

/-! ### The timeline -/

/-- WITHDRAW_ANY (R136). -/
def withdrawAny (s : State) (slot : Byte) : Answer :=
  match slotOf slot.toNat with
  | none => refuse s .badArgument
  | some k =>
    match s.pool.find k with
    | none => refuse s .noSuchRecord
    | some r =>
      if r.isFiring then refuse s .tooLate
      else ((s.freeSlot k).reportDisplaced r .supervisor, .ok,
        dataOf [byte k.val, byte r.owner.code, r.tag, byte (cylinderNumber r.cylinder), byte r.phase.code])

/-- SCRUB_POOL (R49). -/
def scrubPool (s : State) : Answer :=
  (s.setPool s.pool.scrub, .ok, dataOf [byte s.pool.quarantine.length])

/-! ### The fault unit -/

/-- The effect of the change of the OVERSPEED mask bit (R130, R142). -/
def unmaskOverspeed (s : State) (before : Bool) : State :=
  if before && !s.masked .overspeed && s.limits.overspeedActive then s.overspeedSweep else s

/-- The effect of the change of the INJECTOR_WATCH mask bit (R133, R142). -/
def unmaskInjectorWatch (s : State) (before : Bool) : State :=
  if before && !s.masked .injectorWatch && s.faultPending .injectorWatch then
    (s.configured.filter fun c => (s.table.get c).streak == Config.streakLimit).foldl (fun s c => s.disableCylinder c) s
  else s

/-- SET_FAULT_MASK (R142). -/
def setFaultMask (s : State) (written : Word16) : Answer :=
  let overspeedBefore := s.masked .overspeed
  let watchBefore := s.masked .injectorWatch
  let s := s.setFaults { s.faults with mask := written.setWidth 11 }
  let s := (s.unmaskOverspeed overspeedBefore).unmaskInjectorWatch watchBefore
  (s, .ok, dataOf (bytes2 s.faults.mask.toNat ++ bytes2 s.faults.pending.toNat))

/-- READ_FAULTS (R143). -/
def readFaults (s : State) : Answer :=
  (s, .ok, dataOf (bytes2 s.faults.pending.toNat ++ bytes2 s.faults.mask.toNat))

/-- ACK_FAULTS (R143). -/
def ackFaults (s : State) (kinds : Word16) : Answer :=
  let s := s.setFaults { s.faults with pending := s.faults.pending &&& ~~~(kinds.setWidth 11) }
  (s, .ok, dataOf (bytes2 s.faults.pending.toNat))

/-- The capture record as read (R145, R162). -/
def captureData (s : State) : Data :=
  match s.faults.capture with
  | none => 0
  | some c =>
    dataOf ([byte (c.record.kind.code * 16 + cylinderItem c.record.cylinder), byte (slotItem c.record.slot)]
      ++ bytes2 c.record.cycle.toNat ++ bytes4 c.record.time.toNat ++ [byte c.follow])

/-- READ_CAPTURE (R145). -/
def readCapture (s : State) : Answer := (s, .ok, s.captureData)

/-- CLEAR_CAPTURE (R145). -/
def clearCapture (s : State) : Answer := (s.setFaults { s.faults with capture := none }, .ok, s.captureData)

/-! ### Resets -/

/-- SOFT_RESET (R139). -/
def softReset (s : State) : Answer :=
  (s.softResetAll, .ok, dataOf [byte (s.countRecords fun r => !r.isFiring), byte (s.countRecords fun r => r.isFiring)])

/-- RESET_PORT (R138). -/
def resetPort (s : State) (target : Byte) : Answer :=
  match targetOf target with
  | none => refuse s .badArgument
  | some o => (s.resetRequestLink o, .ok, dataOf [byte (s.stagingCount o)])

end State

/-! ### The meanings -/

/-- SET_LIMIT (R126). -/
def execSetLimit (t : Time) (l : Link) (item : Byte) (value : Word16) (s : State) : Host.Outcome State Fault Refusal :=
  .next (s.onFrame t l .setLimit fun s => s.setLimit item value)

/-- SET_ENABLE_MASK (R132). -/
def execSetEnableMask (t : Time) (l : Link) (mask : Byte) (s : State) : Host.Outcome State Fault Refusal :=
  .next (s.onFrame t l .setEnableMask fun s => s.setEnableMask mask)

/-- CUT_NOW (R134). -/
def execCutNow (t : Time) (l : Link) (mask : Byte) (s : State) : Host.Outcome State Fault Refusal :=
  .next (s.onFrame t l .cutNow fun s => s.cutNow mask)

/-- WITHDRAW_ANY (R136). -/
def execWithdrawAny (t : Time) (l : Link) (slot : Byte) (s : State) : Host.Outcome State Fault Refusal :=
  .next (s.onFrame t l .withdrawAny fun s => s.withdrawAny slot)

/-- SET_FAULT_MASK (R142). -/
def execSetFaultMask (t : Time) (l : Link) (mask : Word16) (s : State) : Host.Outcome State Fault Refusal :=
  .next (s.onFrame t l .setFaultMask fun s => s.setFaultMask mask)

/-- READ_FAULTS (R143). -/
def execReadFaults (t : Time) (l : Link) (s : State) : Host.Outcome State Fault Refusal :=
  .next (s.onFrame t l .readFaults fun s => s.readFaults)

/-- ACK_FAULTS (R143). -/
def execAckFaults (t : Time) (l : Link) (kinds : Word16) (s : State) : Host.Outcome State Fault Refusal :=
  .next (s.onFrame t l .ackFaults fun s => s.ackFaults kinds)

/-- READ_CAPTURE (R145). -/
def execReadCapture (t : Time) (l : Link) (s : State) : Host.Outcome State Fault Refusal :=
  .next (s.onFrame t l .readCapture fun s => s.readCapture)

/-- CLEAR_CAPTURE (R145). -/
def execClearCapture (t : Time) (l : Link) (s : State) : Host.Outcome State Fault Refusal :=
  .next (s.onFrame t l .clearCapture fun s => s.clearCapture)

/-- SCRUB_POOL (R49). -/
def execScrubPool (t : Time) (l : Link) (s : State) : Host.Outcome State Fault Refusal :=
  .next (s.onFrame t l .scrubPool fun s => s.scrubPool)

/-- SOFT_RESET (R139). -/
def execSoftReset (t : Time) (l : Link) (s : State) : Host.Outcome State Fault Refusal :=
  .next (s.onFrame t l .softReset fun s => s.softReset)

/-- RESET_PORT (R138). -/
def execResetPort (t : Time) (l : Link) (target : Byte) (s : State) : Host.Outcome State Fault Refusal :=
  .next (s.onFrame t l .resetPort fun s => s.resetPort target)

end Sys2Proof.Machine
end

