-- ==== Sys2Proof/Machine/RefusedFrame.lean ====
section
/-! DEFINITION. The meaning of REFUSED_FRAME (R155 to R158): the answer to a frame that fails one of the first three tests of R158, and what
any other frame does, which is what the command it carries does. -/

namespace Sys2Proof.Machine

/-- The status and the echo of a frame that fails one of the first three tests of R158; none when it passes them. -/
def frameRefusal (f : Frame) : Option (Status × Byte) :=
  match judgeFrame f with
  | .badLength => some (.frameLength, 0)
  | .badCheck => some (.badCheck, f.code)
  | .badCommand => some (.badCommand, f.code)
  | .names _ => none

/-- What a frame does that passes the first three tests of R158: the meaning of the command it carries, which makes tests 4 and 5. A
command that no frame carries, which `readFrame` never reads from such a frame, does nothing. -/
def runCarried (c : Instr) (s : State) : Host.Outcome State Fault Refusal :=
  match c with
  | .nop t l => execNop t l s
  | .readStatus t l part => execReadStatus t l part s
  | .readTime t l => execReadTime t l s
  | .readAngle t l => execReadAngle t l s
  | .readRecord t l slot part => execReadRecord t l slot part s
  | .readCylinder t l cylinder part => execReadCylinder t l cylinder part s
  | .popLog t l => execPopLog t l s
  | .ackEvents t l flags => execAckEvents t l flags s
  | .setNoticeEnables t l flags => execSetNoticeEnables t l flags s
  | .portReset t l => execPortReset t l s
  | .setMark t l mask offset mode => execSetMark t l mask offset mode s
  | .clearMark t l unit => execClearMark t l unit s
  | .setPortState t l state watermark => execSetPortState t l state watermark s
  | .clearStaging t l => execClearStaging t l s
  | .place t l r => execPlace t l r s
  | .amend t l r => execAmend t l r s
  | .withdraw t l r => execWithdraw t l r s
  | .setLimit t l item value => execSetLimit t l item value s
  | .setEnableMask t l mask => execSetEnableMask t l mask s
  | .cutNow t l mask => execCutNow t l mask s
  | .withdrawAny t l slot => execWithdrawAny t l slot s
  | .setFaultMask t l mask => execSetFaultMask t l mask s
  | .readFaults t l => execReadFaults t l s
  | .ackFaults t l kinds => execAckFaults t l kinds s
  | .readCapture t l => execReadCapture t l s
  | .clearCapture t l => execClearCapture t l s
  | .scrubPool t l => execScrubPool t l s
  | .softReset t l => execSoftReset t l s
  | .resetPort t l target => execResetPort t l target s
  | .configWrite t l item value => execConfigWrite t l item value s
  | .configRead t l item => execConfigRead t l item s
  | .commitConfig t l => execCommitConfig t l s
  | .powerOnReset _ | .crankEdge _ _ | .camEdge _ | .stallExpiry _ | .peakEdge _ _ | .stageFaultAssertion _ _
  | .stageFaultNegation _ _ | .startDecision _ _ | .endOfPulse _ _ | .peakDeadline _ _ | .recoveryEnd _ _
  | .refusedFrame _ _ _ | .takePlace _ | .takeAmend _ | .takeWithdraw _ => .next s

/-- REFUSED_FRAME (R155 to R158): the refusal becomes the pending response and reaches no block. A frame that passes the three tests is not
refused here: it is taken as the frame of its command (R158; DESIGN CHOICE, log 12). -/
def execRefusedFrame (t : Time) (l : Link) (f : Frame) (s : State) : Host.Outcome State Fault Refusal :=
  match frameRefusal f with
  | none => runCarried (readFrame t l f) s
  | some (status, echo) =>
    let s := s.arrive t
    if (s.links.get l).ignoring then .next (s.setLink l { s.links.get l with ignoring := false })
    else .next (s.respond l status echo 0)

end Sys2Proof.Machine
end

