-- ==== Sys2Proof/Machine/Dispatch.lean ====
section
/-! DEFINITION. The dispatch: one arm for each command of the table, each one call of that command's meaning. -/

namespace Sys2Proof.Machine

/-- The effect of a command on everything but the queue of waiting commands. -/
def exec (i : Instr) (s : State) : Host.Outcome State Fault Refusal :=
  match i with
  | .powerOnReset lines => Sys2Proof.Machine.execPowerOnReset lines s
  | .crankEdge t order => Sys2Proof.Machine.execCrankEdge t order s
  | .camEdge t => Sys2Proof.Machine.execCamEdge t s
  | .stallExpiry t => Sys2Proof.Machine.execStallExpiry t s
  | .peakEdge t b => Sys2Proof.Machine.execPeakEdge t b s
  | .stageFaultAssertion t b => Sys2Proof.Machine.execStageFaultAssertion t b s
  | .stageFaultNegation t b => Sys2Proof.Machine.execStageFaultNegation t b s
  | .startDecision t b => Sys2Proof.Machine.execStartDecision t b s
  | .endOfPulse t b => Sys2Proof.Machine.execEndOfPulse t b s
  | .peakDeadline t b => Sys2Proof.Machine.execPeakDeadline t b s
  | .recoveryEnd t b => Sys2Proof.Machine.execRecoveryEnd t b s
  | .refusedFrame t l frame => Sys2Proof.Machine.execRefusedFrame t l frame s
  | .nop t l => Sys2Proof.Machine.execNop t l s
  | .readStatus t l part => Sys2Proof.Machine.execReadStatus t l part s
  | .readTime t l => Sys2Proof.Machine.execReadTime t l s
  | .readAngle t l => Sys2Proof.Machine.execReadAngle t l s
  | .readRecord t l slot part => Sys2Proof.Machine.execReadRecord t l slot part s
  | .readCylinder t l cylinder part => Sys2Proof.Machine.execReadCylinder t l cylinder part s
  | .popLog t l => Sys2Proof.Machine.execPopLog t l s
  | .ackEvents t l flags => Sys2Proof.Machine.execAckEvents t l flags s
  | .setNoticeEnables t l flags => Sys2Proof.Machine.execSetNoticeEnables t l flags s
  | .portReset t l => Sys2Proof.Machine.execPortReset t l s
  | .setMark t l mask offset mode => Sys2Proof.Machine.execSetMark t l mask offset mode s
  | .clearMark t l unit => Sys2Proof.Machine.execClearMark t l unit s
  | .setPortState t l state watermark => Sys2Proof.Machine.execSetPortState t l state watermark s
  | .clearStaging t l => Sys2Proof.Machine.execClearStaging t l s
  | .place t l request => Sys2Proof.Machine.execPlace t l request s
  | .amend t l request => Sys2Proof.Machine.execAmend t l request s
  | .withdraw t l request => Sys2Proof.Machine.execWithdraw t l request s
  | .takePlace t => Sys2Proof.Machine.execTakePlace t s
  | .takeAmend t => Sys2Proof.Machine.execTakeAmend t s
  | .takeWithdraw t => Sys2Proof.Machine.execTakeWithdraw t s
  | .setLimit t l item value => Sys2Proof.Machine.execSetLimit t l item value s
  | .setEnableMask t l mask => Sys2Proof.Machine.execSetEnableMask t l mask s
  | .cutNow t l mask => Sys2Proof.Machine.execCutNow t l mask s
  | .withdrawAny t l slot => Sys2Proof.Machine.execWithdrawAny t l slot s
  | .setFaultMask t l mask => Sys2Proof.Machine.execSetFaultMask t l mask s
  | .readFaults t l => Sys2Proof.Machine.execReadFaults t l s
  | .ackFaults t l kinds => Sys2Proof.Machine.execAckFaults t l kinds s
  | .readCapture t l => Sys2Proof.Machine.execReadCapture t l s
  | .clearCapture t l => Sys2Proof.Machine.execClearCapture t l s
  | .scrubPool t l => Sys2Proof.Machine.execScrubPool t l s
  | .softReset t l => Sys2Proof.Machine.execSoftReset t l s
  | .resetPort t l target => Sys2Proof.Machine.execResetPort t l target s
  | .configWrite t l item value => Sys2Proof.Machine.execConfigWrite t l item value s
  | .configRead t l item => Sys2Proof.Machine.execConfigRead t l item s
  | .commitConfig t l => Sys2Proof.Machine.execCommitConfig t l s

end Sys2Proof.Machine
end

