-- ==== Sys2Proof/Safety.lean ====
section
/-! DEFINITION. What counts as a sound state of the part, in the terms the statements use: the properties that every step keeps, and the
reading of a command's time, link and lines. -/

namespace Sys2Proof

/-- The time at which a command is taken; a power-on reset starts the time base anew and has none (DESIGN CHOICE, log 1). -/
def Instr.takenAt : Instr → Option Time
  | .powerOnReset _ => none
  | .crankEdge t _ | .camEdge t | .stallExpiry t | .peakEdge t _ | .stageFaultAssertion t _ | .stageFaultNegation t _
  | .startDecision t _ | .endOfPulse t _ | .peakDeadline t _ | .recoveryEnd t _ | .refusedFrame t _ _ | .nop t _
  | .readStatus t _ _ | .readTime t _ | .readAngle t _ | .readRecord t _ _ _ | .readCylinder t _ _ _ | .popLog t _
  | .ackEvents t _ _ | .setNoticeEnables t _ _ | .portReset t _ | .setMark t _ _ _ _ | .clearMark t _ _
  | .setPortState t _ _ _ | .clearStaging t _ | .place t _ _ | .amend t _ _ | .withdraw t _ _ | .takePlace t
  | .takeAmend t | .takeWithdraw t | .setLimit t _ _ _ | .setEnableMask t _ _ | .cutNow t _ _ | .withdrawAny t _ _
  | .setFaultMask t _ _ | .readFaults t _ | .ackFaults t _ _ | .readCapture t _ | .clearCapture t _ | .scrubPool t _
  | .softReset t _ | .resetPort t _ _ | .configWrite t _ _ _ | .configRead t _ _ | .commitConfig t _ => some t

/-- The link whose frame carries a command; none for a command that no frame carries (section 9.5). -/
def Instr.sender : Instr → Option Link
  | .powerOnReset _ | .crankEdge _ _ | .camEdge _ | .stallExpiry _ | .peakEdge _ _ | .stageFaultAssertion _ _
  | .stageFaultNegation _ _ | .startDecision _ _ | .endOfPulse _ _ | .peakDeadline _ _ | .recoveryEnd _ _
  | .takePlace _ | .takeAmend _ | .takeWithdraw _ => none
  | .refusedFrame _ l _ | .nop _ l | .readStatus _ l _ | .readTime _ l | .readAngle _ l | .readRecord _ l _ _
  | .readCylinder _ l _ _ | .popLog _ l | .ackEvents _ l _ | .setNoticeEnables _ l _ | .portReset _ l
  | .setMark _ l _ _ _ | .clearMark _ l _ | .setPortState _ l _ _ | .clearStaging _ l | .place _ l _ | .amend _ l _
  | .withdraw _ l _ | .setLimit _ l _ _ | .setEnableMask _ l _ | .cutNow _ l _ | .withdrawAny _ l _
  | .setFaultMask _ l _ | .readFaults _ l | .ackFaults _ l _ | .readCapture _ l | .clearCapture _ l | .scrubPool _ l
  | .softReset _ l | .resetPort _ l _ | .configWrite _ l _ _ | .configRead _ l _ | .commitConfig _ l => some l

namespace Machine

/-! ### The slot pool (R38, R44) -/

/-- Every slot that stands in a home: the free list, the cylinder lists, the quarantine list (R38). -/
def Pool.homes (p : Pool) : List Slot :=
  p.free ++ (p.records.map fun r => r.slot) ++ p.quarantine.map fun r => r.slot

/-- Every slot stands in exactly one home, once (R38). -/
abbrev Pool.partitioned (p : Pool) : Prop := ∀ k ∈ allSlots, p.homes.count k = 1

/-- Every cylinder list holds records of its own cylinder (R44). -/
abbrev Pool.sorted (p : Pool) : Prop := ∀ c ∈ allCylinders, ∀ r ∈ p.lists.get c, r.cylinder = c

/-- Offsets do not decrease along a cylinder list. -/
abbrev Pool.ordered (p : Pool) : Prop := ∀ c ∈ allCylinders, (p.lists.get c).Pairwise fun x y => x.offset ≤ y.offset

/-- Offsets strictly increase along every cylinder list, so that no two records of a list have the same offset (R44). -/
abbrev Pool.ascending (p : Pool) : Prop := ∀ c ∈ allCylinders, (p.lists.get c).Pairwise fun x y => x.offset < y.offset

/-- Every cylinder list holds at most the per-cylinder cap of records (R44). -/
abbrev State.withinCap (s : State) : Prop :=
  ∀ c ∈ allCylinders, (s.pool.lists.get c).length ≤ s.engine.config.cap

/-! ### Releases, pulses and lines (R110, R113, R129) -/

namespace State

/-- The FIRE line of a cylinder is asserted (R113). -/
def fireLine (s : State) (c : Cylinder) : Bool := inMask s.drivers.fire c

/-- A cylinder has a FIRING record (R113). -/
def hasFiring (s : State) (c : Cylinder) : Bool := s.pool.records.any fun r => r.isFiring && r.cylinder == c

/-- The running pulse of a bank, if any, is that of a FIRING record of a cylinder of the bank (section 6.6). -/
def pulseSound (s : State) (b : Bank) : Bool :=
  match s.runningPulse b with
  | some p => s.pool.records.any fun r => r.slot == p.slot && r.isFiring && s.bankOf r.cylinder == b
  | none => true

/-- Every entry of a bank's waiting list names a RELEASED record of a cylinder of the bank (R110). -/
def waitingSound (s : State) (b : Bank) : Bool :=
  (s.drivers.get b).waiting.all fun e =>
    s.pool.records.any fun r => r.slot == e.slot && r.isReleased && s.bankOf r.cylinder == b

/-- A record is where its state says: a RELEASED one in a waiting list, a FIRING one the running pulse of its bank (R110, R113). -/
def recordSound (s : State) (r : Record) : Bool :=
  match r.phase with
  | .pending => true
  | .released _ _ => s.waitingSlots.contains r.slot
  | .firing _ _ =>
    match s.runningPulse (s.bankOf r.cylinder) with
    | some p => p.slot == r.slot
    | none => false

/-- The timeline, the waiting lists, the running pulses and the FIRE lines agree: every slot has one home (R38), a waiting list holds
RELEASED records of its bank, none twice, and every RELEASED record waits (R110), the FIRING records are the running pulses, and a FIRE
line is asserted while its cylinder has a FIRING record, and negated otherwise (R113). -/
abbrev timelineSound (s : State) : Prop :=
  s.pool.partitioned ∧ s.waitingSlots.Nodup ∧ s.waitingSound .bankA ∧ s.waitingSound .bankB ∧ s.pulseSound .bankA
    ∧ s.pulseSound .bankB ∧ (∀ r ∈ s.pool.records, s.recordSound r) ∧ ∀ c ∈ allCylinders, s.fireLine c = s.hasFiring c

/-- No record is RELEASED. -/
abbrev noneReleased (s : State) : Prop := ∀ r ∈ s.pool.records, r.isReleased = false

/-! ### The angle clock (section 1.1) -/

/-- The clock's items are those of its sync state: no P and no armed stall timer in STOPPED, a stall timer armed in every other state, P
present in GAP_FOUND and SYNCED, the last tooth angle that of the last tooth, P never 0 (R1 to R8). -/
def clockSound (s : State) : Bool :=
  (match s.clock.period with
    | some p => decide (0 < p)
    | none => true) &&
  match s.clock.sync with
  | .stopped => s.clock.period.isNone && s.clock.stall.isNone && !s.clock.normalSeen
  | .hunt => s.clock.stall.isSome
  | .gapFound =>
    s.clock.stall.isSome && s.clock.period.isSome && decide (s.clock.tooth ≤ 57) && s.clock.lastAngle == 96 * s.clock.tooth
  | .synced =>
    s.clock.stall.isSome && s.clock.period.isSome && decide (s.clock.tooth ≤ 57)
      && s.clock.lastAngle == 96 * s.clock.tooth + 5760 * s.clock.revolution.val

/-! ### Queues, counters and limits (R64, R70, R73, R117, R125, R144, R147) -/

/-- A link's log holds at most 32 entries (R147); it has only its own flags and enables (section 8.5, R152). -/
abbrev linkBounded (s : State) (l : Link) : Prop :=
  (s.links.get l).log.length ≤ 32 ∧ (s.links.get l).sticky &&& ~~~(linkFlags l &&& stickyFlags) = 0
    ∧ (s.links.get l).enables &&& ~~~linkFlags l = 0

/-- A request port holds at most 16 entries and its watermark is 1 to 16 (R64, R70). -/
abbrev portBounded (s : State) (o : Owner) : Prop :=
  (s.staging.get o).queue.length ≤ 16 ∧ 1 ≤ (s.staging.get o).watermark ∧ (s.staging.get o).watermark ≤ 16

/-- Every limit is in its range (R125). -/
abbrev limitsBounded (s : State) : Prop :=
  500 ≤ s.limits.overspeed ∧ s.limits.overspeed ≤ 4000 ∧ s.limits.budget ≤ 8000 ∧ 1 ≤ s.limits.fuelCeiling
    ∧ s.limits.fuelCeiling ≤ 15 ∧ 1 ≤ s.limits.thermalCeiling ∧ s.limits.thermalCeiling ≤ 15 ∧ s.limits.reserve ≤ 16

/-- Every queue, counter and limit is within the range the manual gives it. -/
abbrev bounded (s : State) : Prop :=
  (∀ l ∈ [Link.fuel, .thermal, .supervisor], s.linkBounded l) ∧ (∀ o ∈ [Owner.fuel, .thermal], s.portBounded o)
    ∧ s.staging.fuelRun ≤ 4 ∧ (∀ c ∈ allCylinders, (s.table.get c).streak ≤ 3)
    ∧ (∀ x ∈ s.faults.capture, x.follow ≤ 255) ∧ s.limitsBounded

/-- No carry count exceeds the carry limit, and all are 0 in STOPPED (R8, R104). -/
abbrev carrySound (s : State) : Prop :=
  ∀ c ∈ allCylinders, (s.table.get c).carryCount ≤ s.engine.config.carryLimit
    ∧ (s.clock.sync = .stopped → (s.table.get c).carryCount = 0)

end State

/-! ### Configuration items, derived values and record fields (R26, R41, R104, R165) -/

/-- The edges of a window are offsets (R165). -/
abbrev Window.inSteps (w : Window) : Prop := -5760 ≤ w.lo ∧ w.lo ≤ 5759 ∧ -5760 ≤ w.hi ∧ w.hi ≤ 5759

/-- Every configuration item is in its range (R165). -/
abbrev EngineConfig.inRange (c : EngineConfig) : Prop :=
  (c.cylinderCount = 4 ∨ c.cylinderCount = 6 ∨ c.cylinderCount = 8) ∧ c.tdc1 ≤ 11519 ∧ c.camLo ≤ 11519 ∧ c.camHi ≤ 11519
    ∧ (288 ≤ c.lead ∧ c.lead ≤ 960) ∧ (1000 ≤ c.speed ∧ c.speed ≤ 4000) ∧ (20 ≤ c.minDwell ∧ c.minDwell ≤ 2000)
    ∧ (10 ≤ c.bankRecovery ∧ c.bankRecovery ≤ 500) ∧ c.maxSlip ≤ 500 ∧ (50 ≤ c.peakDeadline ∧ c.peakDeadline ≤ 1000)
    ∧ (50 ≤ c.stallTimeout ∧ c.stallTimeout ≤ 1000) ∧ c.preWindow.inSteps ∧ c.mainWindow.inSteps ∧ c.afterWindow.inSteps
    ∧ c.lateWindow.inSteps ∧ (1 ≤ c.cap ∧ c.cap ≤ 6) ∧ c.carryLimit ≤ 15

/-- The placed fields of a record are in their ranges (R41). -/
abbrev Record.fieldsBounded (r : Record) : Prop :=
  1 ≤ r.priority ∧ r.priority ≤ 15 ∧ 20 ≤ r.duration ∧ r.duration ≤ 4000 ∧ r.repeats ≤ 255 ∧ r.start ≤ 11519

/-- The released duration of a RELEASED or FIRING record; 0 for a PENDING one (R42). -/
def Record.releasedDuration (r : Record) : Nat :=
  match r.phase with
  | .pending => 0
  | .released f _ => f.duration
  | .firing f _ => f.duration

namespace State

/-- While the valid flag is set, the items pass the order and window checks of R170, and the derived values and the banks and TDCs of the
cylinder status table are those of the items (R26, R27, R30, R31, R60). -/
def engineSound (s : State) : Bool :=
  let c := s.engine.config
  let n := c.cylinderCount
  let pw := 1000000 / c.speed
  let entries := (c.firingOrder.toList.take n).map fun e => e.val
  !s.engine.valid ||
    (decide (c.preWindow.lo ≤ c.preWindow.hi) && decide (c.mainWindow.lo ≤ c.mainWindow.hi)
      && decide (c.afterWindow.lo ≤ c.afterWindow.hi) && decide (c.lateWindow.lo ≤ c.lateWindow.hi)
      && ((List.range n).all fun i => entries.count (i + 1) == 1)
      && match s.engine.geometry with
        | none => false
        | some g =>
          g.order.map cylinderNumber == entries && g.pw == pw && g.dwellSpan == (c.minDwell * 96 + (pw - 1)) / pw
            && g.recoverySpan == (c.bankRecovery * 96 + (pw - 1)) / pw
            && g.order.all fun x =>
              (s.table.get x).bank == some (if c.bankMap.getLsbD x.val then .bankB else .bankA)
                && (s.table.get x).tdc == (c.tdc1 + g.order.idxOf x * (11520 / n)) % 11520)

/-- A record that stands in a cylinder list: its fields in range, its cylinder configured, its offset in the window of its kind, its start
angle that of its offset, and a released duration of at least 20 and at most its duration (R28, R37, R41). -/
abbrev placedSound (s : State) (r : Record) : Prop :=
  r.fieldsBounded ∧ r.cylinder ∈ s.configured ∧ (s.engine.config.window r.kind).lo ≤ r.offset
    ∧ r.offset ≤ (s.engine.config.window r.kind).hi ∧ r.start = modCycle (((s.table.get r.cylinder).tdc : Int) + r.offset)
    ∧ (r.isPending = true ∨ 20 ≤ r.releasedDuration ∧ r.releasedDuration ≤ r.duration)

/-- A carry entry holds a duration a pulse may have and, for the engine it was set on, an offset of the MAIN window (R104). -/
abbrev carryRange (s : State) (c : Cylinder) : Prop :=
  ∀ x ∈ (s.table.get c).carry, 20 ≤ x.duration ∧ x.duration ≤ 4000
    ∧ (s.engine.valid = true → s.engine.config.mainWindow.lo ≤ x.offset ∧ x.offset ≤ s.engine.config.mainWindow.hi)

/-- Configuration items, derived values, record fields and carry entries are in their ranges. -/
abbrev rangesSound (s : State) : Prop :=
  s.engine.config.inRange ∧ s.engineSound ∧ (∀ r ∈ s.pool.records, s.placedSound r)
    ∧ (∀ r ∈ s.pool.quarantine, r.fieldsBounded) ∧ ∀ c ∈ allCylinders, s.carryRange c

/-! ### The totals of a cylinder (R37, R102, R119) -/

/-- The placed durations of every cylinder list fit the greatest budget (R90, R91, R125). -/
abbrev budgetSound (s : State) : Prop := ∀ c ∈ allCylinders, sumDurations (s.pool.lists.get c) ≤ 8000

/-- The released durations that a cylinder's RELEASED and FIRING records may still drive. -/
def outstanding (s : State) (c : Cylinder) : Nat := ((s.pool.lists.get c).map Record.releasedDuration).sum

/-- The running pulse of a bank ends its released duration after its start, and that time has not been passed (R115, R119). -/
def pulseTimed (s : State) (b : Bank) : Bool :=
  match s.runningPulse b with
  | none => true
  | some p =>
    match s.pool.find p.slot with
    | none => true
    | some r =>
      match r.phase with
      | .firing f actual =>
        p.ends == actual + BitVec.ofNat 32 f.duration && decide ((s.timeBase - actual).toNat ≤ f.duration)
      | _ => true

/-- The totals of every cylinder are in their ranges: the released total stays within the greatest budget, and the fired total with what is still
outstanding exceeds it by no more than the budget of the records carried over a firing boundary, so that no fired total passes 16,000
(section 3.11, R37, R102, R119). -/
abbrev totalsSound (s : State) : Prop :=
  s.pulseTimed .bankA ∧ s.pulseTimed .bankB
    ∧ ∀ c ∈ allCylinders, (s.table.get c).released ≤ 8000 ∧ (s.table.get c).lastFired ≤ 16000
      ∧ (s.table.get c).fired + s.outstanding c ≤ 8000 + (s.table.get c).released

/-! ### Timers (R25) -/

/-- A RELEASED record comes before another in a waiting list: by the earlier planned start, counted from the time base, then by the lower firing
position, then by the smaller offset (R110). -/
def startsBefore (s : State) (j k : Slot) : Prop :=
  ∃ x y f g T U, s.pool.find j = some x ∧ s.pool.find k = some y ∧ x.phase = .released f T ∧ y.phase = .released g U
    ∧ ((T - s.timeBase).toInt < (U - s.timeBase).toInt
      ∨ ((T - s.timeBase).toInt = (U - s.timeBase).toInt
        ∧ (s.geometry.order.idxOf x.cylinder < s.geometry.order.idxOf y.cylinder
          ∨ (s.geometry.order.idxOf x.cylinder = s.geometry.order.idxOf y.cylinder ∧ x.offset < y.offset))))

/-- How many microseconds from now a time is reached: 0 once it has been (R25). -/
def delayTo (s : State) (x : Time) : Nat := if (s.timeBase - x).toNat < 2 ^ 31 then 0 else (x - s.timeBase).toNat

/-- A timer is armed for a time: the peak deadline and the end of a running pulse, the recovery end, the planned start of an IDLE bank's head,
the stall timer outside STOPPED (R7, R114, R117, R119, R120). -/
def armedFor (s : State) (k : Timer) (x : Time) : Prop :=
  match k with
  | .peakDeadline b => ∃ p, (s.drivers.get b).state = .firing p ∧ p.deadline = some x
  | .pulseEnd b => ∃ p, (s.drivers.get b).state = .firing p ∧ p.ends = x
  | .recoveryEnd b => (s.drivers.get b).state = .recovery x
  | .start b =>
    (s.drivers.get b).state = .idle ∧ ∃ e rest r f,
      (s.drivers.get b).waiting = e :: rest ∧ s.pool.find e.slot = some r ∧ r.phase = .released f x
  | .stall => s.clock.sync ≠ .stopped ∧ s.clock.stall = some x

end State

/-- The command of the table that a timer's expiry is (section "What each step holds"). -/
def Timer.command (t : Time) : Timer → Instr
  | .peakDeadline b => .peakDeadline t b
  | .pulseEnd b => .endOfPulse t b
  | .recoveryEnd b => .recoveryEnd t b
  | .start b => .startDecision t b
  | .stall => .stallExpiry t

namespace State

/-! ### The links (R155, R156) -/

/-- The port of a link takes frames: SEL_N has risen since the release of RESET_N (R155). -/
abbrev listens (s : State) (l : Link) : Prop := (s.links.get l).ignoring = false

/-- The pending response of a link carries a correct frame check (R156). -/
abbrev responseSound (s : State) (l : Link) : Prop :=
  (s.links.get l).response.check
    = frameCheck ((s.links.get l).response.status.code ++ (s.links.get l).response.echo ++ (s.links.get l).response.data)

/-! ### The port resets (R19, R54, R61, R75, R104, R149, R154) and the soft reset (R53, R139) -/

/-- What no reset of a port and no soft reset touches: the time base, the angle clock, the limit set, the fault unit, the configuration,
the quarantine list, the queue of waiting commands (R18, R24, R48, R125, R146, R165). -/
abbrev keptByResets (a b : State) : Prop :=
  b.timeBase = a.timeBase ∧ b.clock = a.clock ∧ b.limits = a.limits ∧ b.faults = a.faults ∧ b.engine = a.engine
    ∧ b.pool.quarantine = a.pool.quarantine ∧ b.pending = a.pending

/-- A record of a link that its port reset frees: PENDING (R54). -/
def freedWithPort (o : Owner) (r : Record) : Bool := r.owner == o && r.isPending

/-- `b` is `a` after a port reset of a request link. -/
abbrev afterPortReset (a : State) (o : Owner) (b : State) : Prop :=
  keptByResets a b ∧ b.drivers = a.drivers ∧ b.staging.fuelRun = 0
    ∧ (∀ p, b.staging.get p
        = if p = o then { a.staging.get p with state := .quiet, queue := [] } else a.staging.get p)
    ∧ (∀ l, b.links.get l = if l = o.link then { a.links.get l with log := [], sticky := 0 } else a.links.get l)
    ∧ (∀ i, b.marks.get i = (a.marks.get i).filter fun u => u.owner != o.link)
    ∧ (∀ c, b.table.get c
        = if o = .fuel then { a.table.get c with carry := none, carryCount := 0 } else a.table.get c)
    ∧ (∀ c, b.pool.lists.get c = ((a.pool.lists.get c).filter fun r => !freedWithPort o r).map fun r =>
        if r.owner = o then r.markFinal else r)
    ∧ b.pool.free = ((a.pool.records.filter (freedWithPort o)).map fun r => r.slot).reverse ++ a.pool.free

/-- `b` is `a` after a soft reset. -/
abbrev afterSoftReset (a b : State) : Prop :=
  keptByResets a b ∧ b.drivers.fire = a.drivers.fire ∧ b.staging.fuelRun = 0
    ∧ (∀ x, b.drivers.get x = { a.drivers.get x with waiting := [] })
    ∧ (∀ p, b.staging.get p = { a.staging.get p with state := .quiet, queue := [] })
    ∧ (∀ l, b.links.get l = { a.links.get l with log := [], sticky := 0 })
    ∧ (∀ i, b.marks.get i = none)
    ∧ (∀ c, b.table.get c = { a.table.get c with carry := none, carryCount := 0 })
    ∧ (∀ c, b.pool.lists.get c = ((a.pool.lists.get c).filter Record.isFiring).map Record.markFinal)
    ∧ b.pool.free = ((a.pool.records.filter fun r => !r.isFiring).map fun r => r.slot).reverse ++ a.pool.free

/-! ### Takes of the placement unit (R72) -/

/-- The queue of a request link is waiting (R72). -/
abbrev queueWaits (s : State) (o : Owner) : Prop := (s.staging.get o).state = .live ∧ (s.staging.get o).queue ≠ []

/-- The fields of a PLACE after step 2 of the plan (R81, R82, R83), for a duration other than 0. -/
def plannedPulse (s : State) (o : Owner) (c : Cylinder) (k : Kind) (r : PlaceRequest) : PlanInput :=
  { owner := o, cylinder := c, kind := k
    offset :=
      if r.offset.toInt < (s.engine.config.window k).lo then (s.engine.config.window k).lo
      else if (s.engine.config.window k).hi < r.offset.toInt then (s.engine.config.window k).hi
      else r.offset.toInt
    duration := max 20 (min 4000 r.duration.toNat)
    priority := if r.priority = 0 then 1 else min r.priority.toNat (s.ceiling o)
    exclude := none }

/-- The clamp flags of a PLACE after step 2 of the plan (R81, R82, R83). -/
def plannedFlags (s : State) (o : Owner) (k : Kind) (r : PlaceRequest) : ClampFlags :=
  { priority := r.priority = 0 || decide (s.ceiling o < r.priority.toNat)
    duration := decide (r.duration.toNat < 20) || decide (4000 < r.duration.toNat)
    offset := decide (r.offset.toInt < (s.engine.config.window k).lo)
      || decide ((s.engine.config.window k).hi < r.offset.toInt)
    budget := false }

/-- CLAMP raised on a link when a clamp flag is set (R84). -/
def clampRaised (s : State) (o : Owner) (f : ClampFlags) : State :=
  if f.priority || f.duration || f.offset || f.budget then s.raiseFlag o.link .clamp else s

end State

/-- The command that takes a staged request (R72). -/
def Staged.takenBy (t : Time) : Staged → Instr
  | .place _ => .takePlace t
  | .amend _ => .takeAmend t
  | .withdraw _ => .takeWithdraw t

end Machine
end Sys2Proof
end

