-- ==== Sys2Proof/Certificates/Slice0/Obligations.lean ====
section
/-! DEFINITION. The statements for the provers. Each says what a rule of the spec, or a choice of the model that its log entry names,
requires of `exec`, `step` or a shared operation. -/

section ModelStatements
open Sys2Proof Sys2Proof.Machine

/-! ### The queue and the time of a command -/

/-- A step with a command in front is that command on the state with the queue's rest. -/
def Obligations.StepRunsFrontCommand : Prop :=
  ∀ (c : Instr) (rest : List Instr) (s : State), s.pending = c :: rest → step s = exec c (s.setPending rest)

/-- A step with no command waiting: a timer due now expires, else the placement unit takes a waiting request, else the time base counts
one microsecond and nothing else changes (the model's choice, log 3). -/
def Obligations.EmptyQueueIdles : Prop :=
  ∀ s : State, s.pending = [] →
    (∀ k, s.nextTimer = some (k, 0) → step s = .next (s.runTimer k))
    ∧ ((∀ k, s.nextTimer ≠ some (k, 0)) → s.nextTake ≠ none → step s = .next s.take)
    ∧ ((∀ k, s.nextTimer ≠ some (k, 0)) → s.nextTake = none → step s = .next (s.setTimeBase (s.timeBase + 1)))

/-- A command taken at `t` acts on the part as its own clock has brought it to `t`, and no command touches the queue of the commands that wait
behind it. On the way to `t` the earliest armed timer that is due before `t` expires at its own time, as the command of its row does, then
the next, at most 256 of them; with none due before `t` only the time passes (the model's choices, logs 1, 2, 14 and 20). -/
def Obligations.CommandTakenAtItsTime : Prop :=
  (∀ (c : Instr) (t : Time) (s : State), c.takenAt = some t → exec c s = exec c (s.arrive t))
  ∧ (∀ (c : Instr) (s s' : State), exec c s = .next s' → s'.pending = s.pending)
  ∧ (∀ (s : State) (t : Time), s.arrive t = State.arriveWithin 256 t s)
  ∧ (∀ (s : State) (t : Time) (n : Nat), (∀ k d, s.nextTimer = some (k, d) → (t - s.timeBase).toNat ≤ d) →
    State.arriveWithin n t s = s.setTimeBase t)
  ∧ (∀ (s : State) (t : Time) (n : Nat) (k : Timer) (d : Nat), s.nextTimer = some (k, d) → d < (t - s.timeBase).toNat →
    State.arriveWithin (n + 1) t s
      = State.arriveWithin n t ((s.setTimeBase (s.timeBase + BitVec.ofNat 32 d)).runTimer k))
  ∧ (∀ s : State, s.nextTimer = none ↔ ∀ k x, ¬ s.armedFor k x)
  ∧ (∀ (s : State) (k : Timer) (d : Nat), s.nextTimer = some (k, d) →
    (∃ x, s.armedFor k x ∧ d = s.delayTo x) ∧ ∀ k' x', s.armedFor k' x' → d ≤ s.delayTo x')
  ∧ ∀ (s : State) (k : Timer), exec (k.command s.timeBase) s = .next (s.runTimer k)

/-! ### RESET_N -/

/-- POWER_ON_RESET with both STAGE_FAULT lines negated sets every item to its reset value, from any state; a STAGE_FAULT line found asserted at the
release of RESET_N raises STAGE_FAULT at that moment, once for each such line. The queue and the note of SEL_N lines found low are the model's
(logs 13 and 14). -/
def Obligations.PowerOnReset : Prop :=
  (∀ (lines : ResetLines) (s : State), lines.stageFaultA = false → lines.stageFaultB = false →
    let port (selected : Bool) : LinkPort :=
      { log := [], sticky := 0, enables := 0, response := { status := .none, echo := 0, data := 0, check := 0xA5 },
        ignoring := selected }
    let bank : BankDriver := { state := .idle, waiting := [], stageFault := false }
    let request : RequestPort := { state := .quiet, queue := [], watermark := 8 }
    exec (.powerOnReset lines) s = .next
      { timeBase := 0
        clock :=
          { sync := .stopped, lastTooth := 0, period := none, normalSeen := false, tooth := 0, revolution := 0,
            lastAngle := 0, cycle := 0, cam := { seen := false, good := false, opposite := false, verdict := false },
            stall := none }
        marks := Eight.all none
        pool := { free := List.finRange 40, lists := Eight.all [], quarantine := [] }
        table := Eight.all
          { bank := none, tdc := 0, released := 0, fired := 0, lastFired := 0, carry := none, carryCount := 0, streak := 0 }
        staging := { fuel := request, thermal := request, fuelRun := 0 }
        limits :=
          { overspeed := 2800, budget := 6000, fuelCeiling := 12, thermalCeiling := 6, reserve := 6, enables := 0xFF,
            overspeedActive := false }
        drivers := { bankA := bank, bankB := bank, fire := 0 }
        faults := { pending := 0, mask := 0, capture := none, raised := [] }
        links :=
          { fuel := port lines.fuelSelected, thermal := port lines.thermalSelected,
            supervisor := port lines.supervisorSelected }
        engine :=
          { config :=
              { cylinderCount := 6, firingOrder := #v[1, 5, 3, 6, 2, 4, 0, 0], bankMap := 0b00111000, tdc1 := 1088,
                camLo := 10560, camHi := 11039, lead := 384, speed := 3000, minDwell := 150, bankRecovery := 40,
                maxSlip := 100, peakDeadline := 300, stallTimeout := 200, preWindow := { lo := -640, hi := -32 },
                mainWindow := { lo := -400, hi := 320 }, afterWindow := { lo := 0, hi := 640 },
                lateWindow := { lo := 640, hi := 2400 }, cap := 5, carryLimit := 3 }
            valid := false, geometry := none }
        pending := s.pending })
  ∧
  (∀ (lines : ResetLines) (s : State), lines.stageFaultA = true ∨ lines.stageFaultB = true →
    let r : FaultRecord := { kind := .stageFault, cylinder := none, slot := none, cycle := 0, time := 0 }
    let both := lines.stageFaultA && lines.stageFaultB
    ∃ u, exec (.powerOnReset { lines with stageFaultA := false, stageFaultB := false }) s = .next u
      ∧ exec (.powerOnReset lines) s = .next
        { u with
          drivers :=
            { bankA := { state := .idle, waiting := [], stageFault := lines.stageFaultA }
              bankB := { state := .idle, waiting := [], stageFault := lines.stageFaultB }, fire := 0 }
          faults :=
            { pending := 0b00100000000, mask := 0, capture := some { record := r, follow := if both then 1 else 0 },
              raised := [] }
          links := u.links.set .supervisor
            { u.links.get .supervisor with
              log := if both then [.fault r, .fault r] else [.fault r]
              sticky := 0b10000000000 } })

/-! ### Invariants -/

/-- The state after a power-on reset meets every invariant below. -/
def Obligations.InvariantsAtReset : Prop :=
  State.reset.timelineSound ∧ State.reset.noneReleased ∧ State.reset.pool.sorted ∧ State.reset.pool.ascending
    ∧ State.reset.withinCap ∧ State.reset.rangesSound ∧ State.reset.budgetSound ∧ State.reset.totalsSound
    ∧ State.reset.clockSound ∧ State.reset.bounded ∧ State.reset.carrySound ∧ State.reset.faults.raised = []
    ∧ ∀ l, State.reset.responseSound l

/-- Every step keeps the partition of the forty slots: each stands in exactly one of the free list, one cylinder list and the
quarantine list. -/
def Obligations.PoolPartitionKept : Prop :=
  ∀ s s' : State, s.pool.partitioned → step s = .next s' → s'.pool.partitioned

/-- Every step keeps the timeline, the waiting lists, the running pulses and the FIRE lines in agreement (`State.timelineSound`): a FIRE
line is asserted exactly while its cylinder has a FIRING record. -/
def Obligations.TimelineSoundKept : Prop :=
  ∀ s s' : State, s.timelineSound → step s = .next s' → s'.timelineSound

/-- A record is RELEASED only while the clock is SYNCED and no overspeed suppression is in force, and every step keeps it so. -/
def Obligations.ReleasedOnlyWhenAllowed : Prop :=
  ∀ s s' : State, s.timelineSound → (s.noneReleased ∨ (s.clock.sync = .synced ∧ s.overspeedSuppression = false)) →
    step s = .next s' → (s'.noneReleased ∨ (s'.clock.sync = .synced ∧ s'.overspeedSuppression = false))

/-- Every step keeps the items of the angle clock those of its sync state (`State.clockSound`), and so the interpolated angle stays
below one revolution in GAP_FOUND and below one cycle in SYNCED. -/
def Obligations.ClockSoundKept : Prop :=
  (∀ s s' : State, s.clockSound → step s = .next s' → s'.clockSound)
  ∧ ∀ (s : State) (t : Time), s.clockSound →
    (s.clock.sync = .gapFound → s.clock.interpolated t ≤ 5759) ∧ (s.clock.sync = .synced → s.clock.interpolated t ≤ 11519)

/-- Every step keeps every log, queue, counter and limit in its range, no carry count above the carry limit, and, while every slot has one home,
the configuration items, the derived values, the fields of every record and the carry entries in theirs, and the placed durations of every
cylinder list within 8,000. A command taken now, and time passing with no timer due, keep the totals of every cylinder in range: the released
total within 8,000, the fired and the last fired total within 16,000. After every step the fault unit has taken every fault raised. -/
def Obligations.BoundsKept : Prop :=
  (∀ s s' : State, s.bounded → step s = .next s' → s'.bounded)
  ∧ (∀ s s' : State, s.carrySound → step s = .next s' → s'.carrySound)
  ∧ (∀ s s' : State, s.faults.raised = [] → step s = .next s' → s'.faults.raised = [])
  ∧ (∀ s s' : State, s.pool.partitioned → s.bounded → s.rangesSound → step s = .next s' → s'.rangesSound)
  ∧ (∀ s s' : State, s.pool.partitioned → s.pool.sorted → s.bounded → s.budgetSound → step s = .next s' → s'.budgetSound)
  ∧ (∀ (c : Instr) (s s' : State), (∀ t, c.takenAt = some t → t = s.timeBase) → s.timelineSound → s.pool.sorted →
    s.withinCap → s.bounded → s.rangesSound → s.budgetSound → s.totalsSound → exec c s = .next s' →
    s'.totalsSound ∧ ∀ x, (s'.table.get x).released ≤ 8000 ∧ (s'.table.get x).fired ≤ 16000 ∧ (s'.table.get x).lastFired ≤ 16000)
  ∧ ∀ (s : State) (t : Time), (∀ k d, s.nextTimer = some (k, d) → (t - s.timeBase).toNat ≤ d) → s.totalsSound →
    (s.setTimeBase t).totalsSound

/-- Every step keeps each cylinder list to records of its own cylinder and to the per-cylinder cap, in order of offset; with the ranges of the
configuration and the records, the offsets of a list stay strictly increasing. -/
def Obligations.CylinderListsWithinCap : Prop :=
  (∀ s s' : State, s.pool.partitioned → s.pool.sorted → s.withinCap → step s = .next s' → s'.pool.sorted ∧ s'.withinCap)
  ∧ (∀ s s' : State, s.pool.ordered → step s = .next s' → s'.pool.ordered)
  ∧ ∀ s s' : State, s.pool.partitioned → s.pool.sorted → s.bounded → s.rangesSound → s.pool.ascending → step s = .next s' →
    s'.pool.ascending

/-- Every step keeps a correct frame check in every pending response. -/
def Obligations.ResponseCheckKept : Prop :=
  ∀ s s' : State, (∀ l, s.responseSound l) → step s = .next s' → ∀ l, s'.responseSound l

/-! ### Frames -/

/-- A frame written for a command is read as that command, with every field at every value. -/
def Obligations.FrameRoundTrip : Prop :=
  ∀ (c : Instr) (t : Time) (l : Link) (f : Frame), c.takenAt = some t → c.sender = some l → writeFrame c = some f →
    readFrame t l f = c

/-- A frame that passes the tests of R158 fails the frame check when any one of its 96 bits is flipped. -/
def Obligations.OneFlippedBitRefused : Prop :=
  ∀ (f : Frame) (n : CommandName) (k : Nat), judgeFrame f = .names n → k < 96 →
    judgeFrame { f with bits := f.bits ^^^ (1#96 <<< k) } = .badCheck

/-- A link port turns a frame away whole: it ignores it while SEL_N has not risen since the release of RESET_N (the frame counted as that
rise is the model's choice, log 13), and it answers NOT_PERMITTED for a command the link may not carry. Its SDO line floats while SEL_N is high;
during a frame it shows the pending response bit by bit, status byte first, most significant bit first, and is low after the 96th. -/
def Obligations.LinkPortTurnsAway : Prop :=
  (∀ (s : State) (l : Link),
    let r := (s.links.get l).response
    s.sdo l none = none
    ∧ (s.listens l → ∀ n,
      (n < 8 → s.sdo l (some n) = some (r.status.code.getMsbD n))
      ∧ (8 ≤ n → n < 16 → s.sdo l (some n) = some (r.echo.getMsbD (n - 8)))
      ∧ (16 ≤ n → n < 88 → s.sdo l (some n) = some (r.data.getMsbD (n - 16)))
      ∧ (88 ≤ n → n < 96 → s.sdo l (some n) = some (r.check.getMsbD (n - 88)))
      ∧ (96 ≤ n → s.sdo l (some n) = some false)))
  ∧ ∀ (c : Instr) (t : Time) (l : Link) (s : State), c.takenAt = some t → c.sender = some l →
    (((s.arrive t).links.get l).ignoring = true →
      exec c s = .next ((s.arrive t).setLink l { (s.arrive t).links.get l with ignoring := false }))
    ∧ ∀ (n : CommandName) (p : Payload), writePayload c = some (n, p) → (s.arrive t).listens l →
      ((0x10 ≤ (commandCode n).toNat ∧ (commandCode n).toNat ≤ 0x14 ∧ l = .supervisor)
        ∨ (0x20 ≤ (commandCode n).toNat ∧ l ≠ .supervisor)) →
      exec c s = .next ((s.arrive t).respond l .notPermitted (commandCode n) 0)

/-- REFUSED_FRAME: FRAME_LENGTH, BAD_CHECK or BAD_COMMAND by the first test that fails, with its echo and no other effect. A frame that
passes the three tests is not refused, and is taken as the command it carries (the model's choice, log 12). -/
def Obligations.RefusedFrameAnswered : Prop :=
  ∀ (t : Time) (l : Link) (f : Frame) (s : State),
    let a := s.arrive t
    let code := f.code.toNat
    let known := (1 ≤ code ∧ code ≤ 0x0C) ∨ (0x10 ≤ code ∧ code ≤ 0x14) ∨ (0x20 ≤ code ∧ code ≤ 0x2E)
    (a.listens l → f.edges ≠ 96 → exec (.refusedFrame t l f) s = .next (a.respond l .frameLength 0 0))
    ∧ (a.listens l → f.edges = 96 → f.check ≠ frameCheck f.body →
        exec (.refusedFrame t l f) s = .next (a.respond l .badCheck f.code 0))
    ∧ (a.listens l → f.edges = 96 → f.check = frameCheck f.body → ¬ known →
        exec (.refusedFrame t l f) s = .next (a.respond l .badCommand f.code 0))
    ∧ (f.edges = 96 → f.check = frameCheck f.body → known →
        exec (.refusedFrame t l f) s = exec (readFrame t l f) s)

/-! ### Commands of every link -/

/-- NOP on every link: status OK, the command code, data 0, and no other change. -/
def Obligations.NopAnswersOk : Prop :=
  ∀ (t : Time) (l : Link) (s : State), (s.arrive t).listens l →
    exec (.nop t l) s = .next ((s.arrive t).respond l .ok 0x01 0)

/-- READ_TIME answers the time base, and READ_STATUS the items of its part, with no other change; a part the link does not have is
BAD_ARGUMENT. The status codes of section 9.4 and the codes of R162 that responses carry, the home of a record apart, which READ_RECORD
states; and the place of each event flag in a set of flags (R161). -/
def Obligations.ReadTimeAndStatus : Prop :=
  [Status.none, .ok, .clamped, .empty, .badCheck, .frameLength, .badCommand, .notPermitted, .portQuiet, .stagingFull, .badArgument,
      .noMarkFree, .notOwner, .noSuchRecord, .tooLate, .engineRunning, .timelineBusy, .configInconsistent].map Status.code
    = [0x00, 0x01, 0x02, 0x03, 0x10, 0x11, 0x12, 0x13, 0x14, 0x15, 0x20, 0x21, 0x22, 0x23, 0x24, 0x25, 0x26, 0x27]
  ∧ [SyncState.stopped, .hunt, .gapFound, .synced].map SyncState.code = [0, 1, 2, 3]
  ∧ Phase.pending.code = 1 ∧ (∀ f t, (Phase.released f t).code = 2 ∧ (Phase.firing f t).code = 3)
  ∧ [Owner.fuel, .thermal].map Owner.code = [1, 2] ∧ [PortState.quiet, .hold, .live].map PortState.code = [1, 2, 3]
  ∧ [none, some Bank.bankA, some .bankB].map bankCode = [0, 1, 2]
  ∧ [Kind.pre, .main, .after, .late].map Kind.code = [1, 2, 3, 4]
  ∧ [LimitItem.overspeedLimit, .budget, .fuelCeiling, .thermalCeiling, .reserve].map LimitItem.code = [1, 2, 3, 4, 5]
  ∧ (∀ (s : State) (l : Link),
    [Flag.logLost, .mark, .sync, .clamp, .displaced, .poolLow, .carry, .capture].map (fun f => s.raiseFlag l f)
      = [3, 4, 5, 6, 7, 8, 9, 10].map fun i =>
        s.setLink l { s.links.get l with sticky := (s.links.get l).sticky ||| 1#11 <<< (i : Nat) })
  ∧ ∀ (t : Time) (l : Link) (part : Byte) (s : State),
    let a := s.arrive t
    a.listens l →
      exec (.readTime t l) s = .next (a.respond l .ok 0x03 (t ++ 0#40))
      ∧ (part = 1 → exec (.readStatus t l part) s = .next (a.respond l .ok 0x02
          ((a.flags l).setWidth 16 ++ (a.links.get l).enables.setWidth 16 ++ 0#7 ++ BitVec.ofBool (a.noticeLine l)
            ++ BitVec.ofNat 8 (a.links.get l).log.length ++ 0#24)))
      ∧ (part = 2 → ∀ o : Owner, l = o.link → exec (.readStatus t l part) s = .next (a.respond l .ok 0x02
          (BitVec.ofNat 8 (a.staging.get o).state.code ++ BitVec.ofNat 8 (a.staging.get o).queue.length
            ++ BitVec.ofNat 8 (a.staging.get o).watermark ++ 0#48)))
      ∧ (part = 3 → l = .supervisor → exec (.readStatus t l part) s = .next (a.respond l .ok 0x02
          (BitVec.ofNat 16 a.limits.overspeed ++ BitVec.ofNat 16 a.limits.budget ++ BitVec.ofNat 8 a.limits.fuelCeiling
            ++ BitVec.ofNat 8 a.limits.thermalCeiling ++ BitVec.ofNat 8 a.limits.reserve ++ a.limits.enables ++ 0#7
            ++ BitVec.ofBool a.limits.overspeedActive)))
      ∧ (part ≠ 1 → ¬ (part = 2 ∧ l ≠ .supervisor) → ¬ (part = 3 ∧ l = .supervisor) →
          exec (.readStatus t l part) s = .next (a.respond l .badArgument 0x02 0))

/-- READ_ANGLE answers the sync state, the interpolated angle (0 in STOPPED and HUNT), the cycle counter, P and rpm, with no other
change. -/
def Obligations.ReadAngle : Prop :=
  ∀ (t : Time) (l : Link) (s : State),
    let a := s.arrive t
    let p := a.clock.period.getD 0
    let data (angle : Nat) : Data :=
      BitVec.ofNat 2 a.clock.sync.code ++ BitVec.ofNat 14 angle ++ a.clock.cycle ++ BitVec.ofNat 20 p
        ++ BitVec.ofNat 20 (1000000 / p)
    a.listens l → a.clockSound →
      ((a.clock.sync = .stopped ∨ a.clock.sync = .hunt) →
        exec (.readAngle t l) s = .next (a.respond l .ok 0x04 (data 0)))
      ∧ ((a.clock.sync = .gapFound ∨ a.clock.sync = .synced) →
        exec (.readAngle t l) s = .next (a.respond l .ok 0x04 (data (a.clock.lastAngle
          + min (if a.clock.tooth = 57 then 287 else 95) ((t - a.clock.lastTooth).toNat * 96 / p)))))

/-- READ_RECORD answers the placed fields or the timing of the record a slot holds, home FREE and 0 for a free slot, with no other
change; a slot above 39 or an unknown part is BAD_ARGUMENT. The priority is read as its stored four bits (log 8). -/
def Obligations.ReadRecord : Prop :=
  ∀ (t : Time) (l : Link) (slot part : Byte) (s : State),
    let a := s.arrive t
    a.listens l →
      ((39 < slot.toNat ∨ (part ≠ 1 ∧ part ≠ 2)) →
        exec (.readRecord t l slot part) s = .next (a.respond l .badArgument 0x05 0))
      ∧ ∀ k : Slot, k.val = slot.toNat → part = 1 ∨ part = 2 →
        (a.pool.find k = none → (a.pool.quarantine.find? fun r => r.slot == k) = none →
          exec (.readRecord t l slot part) s = .next (a.respond l .ok 0x05 (0b01#2 ++ 0#70)))
        ∧ ∀ (home : BitVec 2) (r : Record),
          ((a.pool.find k = some r ∧ home = 2)
            ∨ (a.pool.find k = none ∧ (a.pool.quarantine.find? fun r => r.slot == k) = some r ∧ home = 3)) →
          (part = 1 → exec (.readRecord t l slot part) s = .next (a.respond l .ok 0x05
            (home ++ BitVec.ofNat 2 r.phase.code ++ BitVec.ofNat 2 r.owner.code ++ BitVec.ofBool r.carried
              ++ BitVec.ofBool r.report ++ r.tag ++ BitVec.ofNat 4 (cylinderNumber r.cylinder) ++ BitVec.ofNat 4 r.priority
              ++ BitVec.ofNat 8 r.kind.code ++ BitVec.ofInt 16 r.offset ++ BitVec.ofNat 16 r.duration
              ++ BitVec.ofNat 8 r.repeats)))
          ∧ (part = 2 → r.phase = .pending → exec (.readRecord t l slot part) s = .next (a.respond l .ok 0x05
            (home ++ 0b01#2 ++ 0#4 ++ BitVec.ofNat 16 r.start ++ 0#48)))
          ∧ (∀ f planned, part = 2 → r.phase = .released f planned →
            exec (.readRecord t l slot part) s = .next (a.respond l .ok 0x05
              (home ++ 0b10#2 ++ 0#2 ++ BitVec.ofBool f.shortened ++ BitVec.ofBool f.final ++ BitVec.ofNat 16 r.start
                ++ BitVec.ofNat 16 f.duration ++ planned)))
          ∧ (∀ f actual, part = 2 → r.phase = .firing f actual →
            exec (.readRecord t l slot part) s = .next (a.respond l .ok 0x05
              (home ++ 0b11#2 ++ 0#2 ++ BitVec.ofBool f.shortened ++ BitVec.ofBool f.final ++ BitVec.ofNat 16 r.start
                ++ BitVec.ofNat 16 f.duration ++ actual)))

/-- READ_CYLINDER answers the pool summary for cylinder 0, the totals or the carry entry of cylinders 1 to 8, with no other change; a
cylinder above 8 or an unknown part is BAD_ARGUMENT. -/
def Obligations.ReadCylinder : Prop :=
  ∀ (t : Time) (l : Link) (cylinder part : Byte) (s : State),
    let a := s.arrive t
    let list (c : Cylinder) := a.pool.lists.get c
    let len (c : Cylinder) : BitVec 4 := BitVec.ofNat 4 (list c).length
    let slot (k : Option Slot) : Byte := match k with | some k => BitVec.ofNat 8 k.val | none => 0xFF
    let first (rs : List Record) : Byte := slot (rs.head?.map fun r => r.slot)
    a.listens l →
      (cylinder = 0 → (∀ c, (list c).length ≤ 15) → exec (.readCylinder t l cylinder part) s = .next (a.respond l .ok 0x06
        (BitVec.ofNat 8 a.pool.free.length ++ BitVec.ofNat 8 a.pool.quarantine.length ++ len 0 ++ len 1 ++ len 2 ++ len 3
          ++ len 4 ++ len 5 ++ len 6 ++ len 7 ++ slot a.pool.free.head? ++ first a.pool.quarantine ++ 0#8)))
      ∧ ((8 < cylinder.toNat ∨ (cylinder ≠ 0 ∧ part ≠ 1 ∧ part ≠ 2)) →
        exec (.readCylinder t l cylinder part) s = .next (a.respond l .badArgument 0x06 0))
      ∧ ∀ c : Cylinder, cylinderNumber c = cylinder.toNat →
        let e := a.table.get c
        let known := a.configured.contains c
        (part = 1 → (list c).length ≤ 7 → e.streak ≤ 3 → exec (.readCylinder t l cylinder part) s = .next
          (a.respond l .ok 0x06 (BitVec.ofBool (a.enabled c) ++ BitVec.ofNat 2 (if known then bankCode e.bank else 0)
            ++ BitVec.ofNat 3 (if known then (list c).length else 0) ++ BitVec.ofNat 2 e.streak
            ++ BitVec.ofNat 16 (if known then e.tdc else 0) ++ BitVec.ofNat 16 e.released ++ BitVec.ofNat 16 e.fired
            ++ BitVec.ofNat 16 e.lastFired)))
        ∧ (part = 2 → e.carry = none → exec (.readCylinder t l cylinder part) s = .next
          (a.respond l .ok 0x06 (0#40 ++ BitVec.ofNat 8 e.carryCount ++ first (list c) ++ 0#16)))
        ∧ ∀ x, part = 2 → e.carry = some x → exec (.readCylinder t l cylinder part) s = .next
          (a.respond l .ok 0x06 (1#8 ++ BitVec.ofInt 16 x.offset ++ BitVec.ofNat 16 x.duration
            ++ BitVec.ofNat 8 e.carryCount ++ first (list c) ++ 0#16))

/-- POP_LOG on a log that holds entries removes and answers the front one; on an empty log it answers EMPTY and changes nothing else. -/
def Obligations.PopLog : Prop :=
  ∀ (t : Time) (l : Link) (s : State),
    let a := s.arrive t
    a.listens l →
      ((a.links.get l).log = [] → exec (.popLog t l) s = .next (a.respond l .empty 0x07 0))
      ∧ ∀ e rest, (a.links.get l).log = e :: rest → exec (.popLog t l) s = .next
        ((a.setLink l { a.links.get l with log := rest }).respond l .ok 0x07 e.data)

/-- The nine bytes of each kind of log entry and the codes they carry (section 9.8), with the severities of section 8.1; byte 0 of an entry is
never 00h. -/
def Obligations.LogEntryShapes : Prop :=
  let slot8 (k : Slot) : Byte := BitVec.ofNat 8 k.val
  let orNone (k : Option Slot) : Byte := match k with | some k => slot8 k | none => 0xFF
  let clamps (f : ClampFlags) : BitVec 4 :=
    BitVec.ofBool f.budget ++ BitVec.ofBool f.offset ++ BitVec.ofBool f.duration ++ BitVec.ofBool f.priority
  let kind2 (k : Kind) : BitVec 2 := match k with | .pre => 0 | .main => 1 | .after => 2 | .late => 3
  (∀ k tag f disabled n d, (LogEntry.placed k tag f disabled n d).data
    = 0x10#8 ++ slot8 k ++ tag ++ 0#3 ++ BitVec.ofBool disabled ++ clamps f ++ BitVec.ofNat 8 n ++ BitVec.ofNat 16 d ++ 0#16)
  ∧ (∀ k tag f n d, (LogEntry.amended k tag f n d).data
    = 0x20#8 ++ slot8 k ++ tag ++ 0#4 ++ clamps f ++ BitVec.ofNat 8 n ++ BitVec.ofNat 16 d ++ 0#16)
  ∧ (∀ k tag, (LogEntry.withdrawn k tag).data = 0x30#8 ++ slot8 k ++ tag ++ 0#48)
  ∧ (∀ x k tag reason f b, (LogEntry.refused x k tag reason f b).data
    = 0x4#4 ++ BitVec.ofNat 4 reason.code ++ k.getD 0xFF#8 ++ tag ++ 0#1 ++ BitVec.ofNat 2 x.code ++ 0#1 ++ clamps f
      ++ orNone b ++ 0#32)
  ∧ (∀ k tag c x carried cause, (LogEntry.displaced k tag c x carried cause).data
    = 0x5#4 ++ BitVec.ofNat 4 cause.code ++ slot8 k ++ tag ++ 0#1 ++ BitVec.ofBool carried ++ kind2 x
      ++ BitVec.ofNat 4 (cylinderNumber c) ++ 0#40)
  ∧ (∀ r : FiringReport, (LogEntry.firing r).data
    = 1#1 ++ BitVec.ofNat 4 r.outcome.code ++ BitVec.ofNat 3 r.cylinder.val ++ BitVec.ofBool r.freed
      ++ BitVec.ofBool r.carried ++ BitVec.ofNat 6 r.slot.val ++ r.tag ++ BitVec.ofNat 4 (r.duration / 256)
      ++ BitVec.ofBool r.noRise ++ BitVec.ofBool r.shortened ++ kind2 r.kind ++ BitVec.ofNat 8 r.duration
      ++ BitVec.ofNat 8 r.repeats ++ r.cycle.setWidth 8 ++ (r.start.getD 0).setWidth 16)
  ∧ (∀ i c cycle time, (LogEntry.mark i c cycle time).data
    = 0x6#4 ++ BitVec.ofNat 4 i.val ++ BitVec.ofNat 8 (cylinderNumber c) ++ cycle ++ time ++ 0#8)
  ∧ (∀ r : FaultRecord, (LogEntry.fault r).data
    = 0x7#4 ++ BitVec.ofNat 4 r.kind.code ++ BitVec.ofNat 4 (match r.cylinder with | some c => cylinderNumber c | none => 0)
      ++ BitVec.ofNat 4 r.kind.severity ++ orNone r.slot ++ r.cycle ++ r.time)
  ∧ (∀ e : LogEntry, e.data.extractLsb' 64 8 ≠ 0)
  ∧ [Reason.notReady, .badCylinder, .badKind, .badDuration, .notSynced, .stale, .early, .poolEmpty, .poolLow, .conflict,
      .cylinderFull, .budget, .badArgument, .noSuchRecord, .tooLate].map Reason.code
    = [1, 2, 3, 4, 5, 6, 7, 8, 9, 10, 11, 12, 13, 14, 15]
  ∧ [DisplaceCause.conflict, .capacity, .budget, .integrity, .supervisor].map DisplaceCause.code = [1, 2, 3, 4, 5]
  ∧ [Outcome.started .fired, .started .late, .started .slipped, .truncatedStage, .truncatedCut, .skippedSlip, .budgetSkipped,
      .suppressed .disabled, .suppressed .overspeed, .suppressed .stage, .suppressed .cut].map Outcome.code
    = [0, 1, 2, 3, 4, 5, 6, 7, 8, 9, 10]
  ∧ [StagedCommand.place, .amend, .withdraw].map StagedCommand.code = [1, 2, 3]
  ∧ [FaultKind.lateStart, .slipSkip, .camFault, .noRise, .dryCylinder, .syncError, .phaseError, .integrity, .stageFault,
      .overspeed, .injectorWatch].map (fun k => (k.code, k.severity))
    = [(1, 1), (2, 1), (3, 2), (4, 2), (5, 3), (6, 3), (7, 3), (8, 3), (9, 3), (10, 4), (11, 4)]

/-- ACK_EVENTS clears the sticky flags written with 1 and no others, and answers the flags left; SET_NOTICE_ENABLES sets the enables of
the flags the link has, and answers the enables and the flags. -/
def Obligations.FlagCommands : Prop :=
  ∀ (t : Time) (l : Link) (written : Word16) (s : State),
    let a := s.arrive t
    let sticky := (a.links.get l).sticky &&& ~~~(written.setWidth 11 &&& 0b11111111000)
    let cleared := a.setLink l { a.links.get l with sticky := sticky }
    let owned : BitVec 11 :=
      match l with | .fuel => 0b01111111011 | .thermal => 0b00111111011 | .supervisor => 0b10000111101
    let enabled := a.setLink l { a.links.get l with enables := written.setWidth 11 &&& owned }
    a.listens l →
      exec (.ackEvents t l written) s
        = .next (cleared.respond l .ok 0x08 ((sticky ||| a.levelFlags l).setWidth 16 ++ 0#56))
      ∧ exec (.setNoticeEnables t l written) s
        = .next (enabled.respond l .ok 0x09
          ((written.setWidth 11 &&& owned).setWidth 16 ++ (a.flags l).setWidth 16 ++ 0#40))

/-- PORT_RESET on a request link and RESET_PORT of that link have the same effect, and answer the number of staged entries discarded;
PORT_RESET on the supervisor link empties its log and clears its sticky flags alone; any other target is BAD_ARGUMENT. -/
def Obligations.PortResets : Prop :=
  (∀ (t : Time) (o : Owner) (s : State),
    let a := s.arrive t
    let n : Byte := BitVec.ofNat 8 (a.staging.get o).queue.length
    a.timelineSound → ∃ b, State.afterPortReset a o b
      ∧ (a.listens o.link → exec (.portReset t o.link) s = .next (b.respond o.link .ok 0x0A (n ++ 0#64)))
      ∧ (a.listens .supervisor →
        exec (.resetPort t .supervisor (match o with | .fuel => 1 | .thermal => 2)) s
          = .next (b.respond .supervisor .ok 0x2B (n ++ 0#64))))
  ∧ ∀ (t : Time) (target : Byte) (s : State),
    let a := s.arrive t
    a.listens .supervisor →
      exec (.portReset t .supervisor) s
        = .next ((a.setLink .supervisor { a.links.get .supervisor with log := [], sticky := 0 }).respond
          .supervisor .ok 0x0A 0)
      ∧ (target ≠ 1 → target ≠ 2 →
        exec (.resetPort t .supervisor target) s = .next (a.respond .supervisor .badArgument 0x2B 0))

/-- SOFT_RESET: both request ports, all three logs and flag sets, the marks, the carry entries, every PENDING and RELEASED record; FIRING
records are marked final; it answers how many were freed and how many marked. -/
def Obligations.SoftReset : Prop :=
  ∀ (t : Time) (s : State),
    let a := s.arrive t
    a.listens .supervisor → a.timelineSound → ∃ b, State.afterSoftReset a b
      ∧ exec (.softReset t .supervisor) s = .next (b.respond .supervisor .ok 0x2A
        (BitVec.ofNat 8 (a.pool.records.countP fun r => !r.isFiring)
          ++ BitVec.ofNat 8 (a.pool.records.countP Record.isFiring) ++ 0#56))

/-- SET_MARK fills the lowest free unit, or is refused with BAD_ARGUMENT or NO_MARK_FREE; CLEAR_MARK frees a unit of the sending link, or
is refused with BAD_ARGUMENT or NOT_OWNER. -/
def Obligations.SetAndClearMark : Prop :=
  ∀ (t : Time) (l : Link) (mask mode unit : Byte) (offset : Word16) (s : State),
    let a := s.arrive t
    let bad := mask = 0 ∨ offset.toInt < -5760 ∨ 5759 < offset.toInt ∨ (mode ≠ 1 ∧ mode ≠ 2)
    a.listens l →
      (bad → exec (.setMark t l mask offset mode) s = .next (a.respond l .badArgument 0x0B 0))
      ∧ (¬ bad → (∀ i, a.marks.get i ≠ none) →
        exec (.setMark t l mask offset mode) s = .next (a.respond l .noMarkFree 0x0B 0))
      ∧ (∀ i : MarkIndex, ¬ bad → a.marks.get i = none → (∀ j, j < i → a.marks.get j ≠ none) →
        exec (.setMark t l mask offset mode) s = .next
          ((a.setMarks (a.marks.set i (some
            { owner := l, mask := mask, offset := offset.toInt, mode := if mode = 1 then .once else .every }))).respond
            l .ok 0x0B (BitVec.ofNat 8 i.val ++ 0#64)))
      ∧ (7 < unit.toNat → exec (.clearMark t l unit) s = .next (a.respond l .badArgument 0x0C 0))
      ∧ ∀ i : MarkIndex, i.val = unit.toNat →
        ((∀ u, a.marks.get i = some u → u.owner ≠ l) →
          exec (.clearMark t l unit) s = .next (a.respond l .notOwner 0x0C 0))
        ∧ ∀ u, a.marks.get i = some u → u.owner = l →
          exec (.clearMark t l unit) s = .next ((a.setMarks (a.marks.set i none)).respond l .ok 0x0C 0)

/-! ### Request links -/

/-- SET_PORT_STATE sets the state named and a watermark of 1 to 16 of its own link's port, KEEP and 0 keeping them; other codes and
watermarks are BAD_ARGUMENT. CLEAR_STAGING empties the queue and answers how many entries it discarded. -/
def Obligations.PortStateAndClearStaging : Prop :=
  ∀ (t : Time) (o : Owner) (state watermark : Byte) (s : State),
    let a := s.arrive t
    let p := a.staging.get o
    let q : RequestPort :=
      { state := if state = 1 then .quiet else if state = 2 then .hold else if state = 3 then .live else p.state
        queue := p.queue
        watermark := if watermark = 0 then p.watermark else watermark.toNat }
    a.listens o.link →
      ((state = 0 ∨ 4 < state.toNat ∨ 16 < watermark.toNat) →
        exec (.setPortState t o.link state watermark) s = .next (a.respond o.link .badArgument 0x10 0))
      ∧ (1 ≤ state.toNat → state.toNat ≤ 4 → watermark.toNat ≤ 16 →
        exec (.setPortState t o.link state watermark) s = .next ((a.setPort o q).respond o.link .ok 0x10
          (BitVec.ofNat 8 q.state.code ++ BitVec.ofNat 8 q.watermark ++ BitVec.ofNat 8 p.queue.length ++ 0#48)))
      ∧ exec (.clearStaging t o.link) s = .next ((a.setPort o { p with queue := [] }).respond o.link .ok 0x11
          (BitVec.ofNat 8 p.queue.length ++ 0#64))

/-- The intake of a PLACE, AMEND or WITHDRAW: it joins the back of its link's queue in HOLD and LIVE while there is room, its fields as
carried; PORT_QUIET and STAGING_FULL otherwise. The staging count in the data is the model's reading (log 15). -/
def Obligations.StagingIntake : Prop :=
  ∀ (t : Time) (o : Owner) (x : Staged) (s : State),
    let a := s.arrive t
    let p := a.staging.get o
    let c : Instr := match x with
      | .place r => .place t o.link r | .amend r => .amend t o.link r | .withdraw r => .withdraw t o.link r
    let code : Byte := match x with | .place _ => 0x12 | .amend _ => 0x13 | .withdraw _ => 0x14
    a.listens o.link →
      (p.state = .quiet →
        exec c s = .next (a.respond o.link .portQuiet code (BitVec.ofNat 8 p.queue.length ++ 0#64)))
      ∧ (p.state ≠ .quiet → p.queue.length < 16 →
        exec c s = .next ((a.setPort o { p with queue := p.queue ++ [x] }).respond o.link .ok code
          (BitVec.ofNat 8 (p.queue.length + 1) ++ 0#64)))
      ∧ (p.state ≠ .quiet → 16 ≤ p.queue.length →
        exec c s = .next (a.respond o.link .stagingFull code (BitVec.ofNat 8 p.queue.length ++ 0#64)))

/-! ### The placement unit -/

/-- The arbiter takes the fuel head first, and one thermal head after four fuel heads taken while both queues waited; a take command
whose kind is not that of the head taken, or that finds no queue waiting, changes nothing (the last is the model's choice, log 4). -/
def Obligations.ArbiterTakes : Prop :=
  ∀ (t : Time) (o : Owner) (x : Staged) (rest : List Staged) (s : State),
    let a := s.arrive t
    let taken (n : Nat) : State :=
      (a.setPort o { a.staging.get o with queue := rest }).setStaging
        { (a.staging.set o { a.staging.get o with queue := rest }) with fuelRun := n }
    let fuel := a.queueWaits .fuel
    let thermal := a.queueWaits .thermal
    ((a.staging.get o).queue = x :: rest →
      (o = .fuel → fuel → ¬ thermal → exec (x.takenBy t) s = .next ((taken 0).applyStaged o x))
      ∧ (o = .fuel → fuel → thermal → a.staging.fuelRun ≤ 3 →
        exec (x.takenBy t) s = .next ((taken (a.staging.fuelRun + 1)).applyStaged o x))
      ∧ (o = .thermal → thermal → ¬ fuel → exec (x.takenBy t) s = .next ((taken 0).applyStaged o x))
      ∧ (o = .thermal → thermal → fuel → 4 ≤ a.staging.fuelRun →
        exec (x.takenBy t) s = .next ((taken 0).applyStaged o x)))
    ∧ (¬ fuel → ¬ thermal → exec (x.takenBy t) s = .next a)
    ∧ ∀ (o' : Owner) (n : Nat) (y : Staged), a.nextTake = some (o', n, y) → y.takenBy t ≠ x.takenBy t →
      exec (x.takenBy t) s = .next a

/-- TAKE_WITHDRAW: a PENDING record matched by slot, owner and tag is freed with a WITHDRAWN entry; a RELEASED or FIRING one is refused
with TOO_LATE, and no match with NO_SUCH_RECORD, with the REFUSED entry and no other change. -/
def Obligations.TakeWithdraw : Prop :=
  ∀ (t : Time) (o : Owner) (n : Nat) (w : WithdrawRequest) (s : State),
    let a := s.arrive t
    let b := a.removeHead o n
    let refused (reason : Reason) : State :=
      b.append o.link (.refused .withdraw (some w.slot) w.tag reason
        { priority := false, duration := false, offset := false, budget := false } none)
    a.nextTake = some (o, n, .withdraw w) →
      ((∀ r, a.pool.find r.slot = some r → r.slot.val = w.slot.toNat → ¬ (r.owner = o ∧ r.tag = w.tag)) →
        exec (.takeWithdraw t) s = .next (refused .noSuchRecord))
      ∧ ∀ (k : Slot) (r : Record), k.val = w.slot.toNat → a.pool.find k = some r → r.owner = o → r.tag = w.tag →
        (r.phase ≠ .pending → exec (.takeWithdraw t) s = .next (refused .tooLate))
        ∧ (r.phase = .pending → exec (.takeWithdraw t) s = .next
          (((b.dropWaiting k).setPool { b.pool.unlink k with free := k :: b.pool.free }).append o.link
            (.withdrawn k w.tag)))

/-- TAKE_AMEND: judged in the order BAD_ARGUMENT, NO_SUCH_RECORD, TOO_LATE, BAD_DURATION and the plan without the record itself; an
accepted amendment displaces the marked records. With a new offset the record takes it, its start angle and the duration, and moves within the
list it stands in to its place by offset; with the offset as it was, the duration alone is replaced, in the record's place. Either writes the
check bit anew, with an AMENDED entry. CLAMP is raised whenever a clamp flag was set. How the plan judges a record whose start angle or cylinder
was flipped is the model's choice (log 28). -/
def Obligations.TakeAmend : Prop :=
  ∀ (t : Time) (o : Owner) (n : Nat) (x : AmendRequest) (s : State),
    let a := s.arrive t
    let b := a.removeHead o n
    let none' : ClampFlags := { priority := false, duration := false, offset := false, budget := false }
    let refused (reason : Reason) (f : ClampFlags) (blocking : Option Slot) : State :=
      (b.clampRaised o f).append o.link (.refused .amend (some x.slot) x.tag reason f blocking)
    a.nextTake = some (o, n, .amend x) →
      (x.offsetPresent = false → x.durationPresent = false →
        exec (.takeAmend t) s = .next (refused .badArgument none' none))
      ∧ (x.offsetPresent = true ∨ x.durationPresent = true →
        ((∀ r, a.pool.find r.slot = some r → r.slot.val = x.slot.toNat → ¬ (r.owner = o ∧ r.tag = x.tag)) →
          exec (.takeAmend t) s = .next (refused .noSuchRecord none' none))
        ∧ ∀ (k : Slot) (r : Record), k.val = x.slot.toNat → a.pool.find k = some r → r.owner = o → r.tag = x.tag →
          (r.phase ≠ .pending → exec (.takeAmend t) s = .next (refused .tooLate none' none))
          ∧ (r.phase = .pending → x.durationPresent = true → x.duration = 0 →
            exec (.takeAmend t) s = .next (refused .badDuration none' none))
          ∧ (r.phase = .pending → (x.durationPresent = true → x.duration ≠ 0) →
            let w := a.engine.config.window r.kind
            let q : PlanInput :=
              { owner := o, cylinder := r.cylinder, kind := r.kind
                offset :=
                  if x.offsetPresent then
                    (if x.offset.toInt < w.lo then w.lo else if w.hi < x.offset.toInt then w.hi else x.offset.toInt)
                  else r.offset
                duration := if x.durationPresent then max 20 (min 4000 x.duration.toNat) else r.duration
                priority := r.priority, exclude := some k }
            let f : ClampFlags :=
              { none' with
                duration := x.durationPresent && (decide (x.duration.toNat < 20) || decide (4000 < x.duration.toNat))
                offset := x.offsetPresent && (decide (x.offset.toInt < w.lo) || decide (w.hi < x.offset.toInt)) }
            (∀ reason blocking, b.planFit q = .refused reason blocking →
              exec (.takeAmend t) s = .next (refused reason f blocking))
            ∧ ∀ marks d bc, b.planFit q = .accepted marks d bc →
              let m := b.displaceMarked marks
              let r' : Record :=
                { r with offset := q.offset, start := startAngle (a.table.get r.cylinder).tdc q.offset, duration := d }
              let moved : Pool :=
                { m.pool with
                  lists := m.pool.lists.map fun _ l =>
                    if l.any fun z => z.slot == k then
                      insertByOffset { r' with check := r'.parity } (l.filter fun z => z.slot != k)
                    else l }
              let kept : Pool := m.pool.update k fun z =>
                let y : Record := { z with duration := d }
                { y with check := y.parity }
              let f' : ClampFlags := { f with budget := bc }
              exec (.takeAmend t) s = .next
                (((m.setPool (if q.offset = r.offset then kept else moved)).clampRaised o f').append o.link
                  (.amended k x.tag f' marks.length d))))

/-- TAKE_PLACE: the steps of the placement plan in their order, each refusal with its reason and the clamp flags set before it; an accepted
request displaces the marked records, pops the head of the free list and fills it, with a PLACED entry. The marked records are freed in
the order of the marks, each with a DISPLACED entry of its cause in its owner's log and that log's DISPLACED flag. -/
def Obligations.TakePlace : Prop :=
  (∀ s : State, s.displaceMarked [] = s)
  ∧ (∀ (s : State) (m : Mark) (ms : List Mark), s.pool.find m.record.slot = some m.record →
    let r := m.record
    let freed := (s.dropWaiting r.slot).setPool { s.pool.unlink r.slot with free := r.slot :: s.pool.free }
    s.displaceMarked (m :: ms)
      = ((freed.append r.owner.link (.displaced r.slot r.tag r.cylinder r.kind r.carried m.cause)).raiseFlag r.owner.link
          .displaced).displaceMarked ms)
  ∧ ∀ (t : Time) (o : Owner) (n : Nat) (r : PlaceRequest) (s : State),
    let a := s.arrive t
    let b := a.removeHead o n
    let none' : ClampFlags := { priority := false, duration := false, offset := false, budget := false }
    let refused (reason : Reason) (f : ClampFlags) (blocking : Option Slot) : State :=
      (b.clampRaised o f).append o.link (.refused .place none r.tag reason f blocking)
    let configured := b.configured.length
    a.nextTake = some (o, n, .place r) →
      (b.engine.valid = false → exec (.takePlace t) s = .next (refused .notReady none' none))
      ∧ (b.engine.valid = true → (r.cylinder = 0 ∨ min 8 configured < r.cylinder.toNat) →
        exec (.takePlace t) s = .next (refused .badCylinder none' none))
      ∧ ∀ c : Cylinder, b.engine.valid = true → cylinderNumber c = r.cylinder.toNat → cylinderNumber c ≤ configured →
        ((∀ k : Kind, k.code = r.kind.toNat → ¬ ((o = .fuel ∧ k ≠ .late) ∨ (o = .thermal ∧ (k = .after ∨ k = .late)))) →
          exec (.takePlace t) s = .next (refused .badKind none' none))
        ∧ ∀ k : Kind, k.code = r.kind.toNat → (o = .fuel ∧ k ≠ .late) ∨ (o = .thermal ∧ (k = .after ∨ k = .late)) →
          let q := b.plannedPulse o c k r
          let f := b.plannedFlags o k r
          let S := startAngle (b.table.get c).tdc q.offset
          let d := modCycle ((S : Int) - (b.clock.lastAngle : Int))
          let fires := (b.clock.cycle.toNat + (if 11520 ≤ b.clock.lastAngle + d then 1 else 0)
            + (if b.engine.config.lead < d then 0 else 1)) % 65536
          let stampPasses := r.stampPresent = false ∨ (b.clock.sync = .synced ∧ r.stamp.toNat = fires % 256)
          let poolPasses := b.pool.free ≠ [] ∧ (o = .thermal → b.limits.reserve < b.pool.free.length)
          (r.duration = 0 →
            exec (.takePlace t) s = .next (refused .badDuration { none' with priority := f.priority } none))
          ∧ (r.duration ≠ 0 →
            (r.stampPresent = true → b.clock.sync ≠ .synced →
              exec (.takePlace t) s = .next (refused .notSynced f none))
            ∧ (r.stampPresent = true → b.clock.sync = .synced → r.stamp.toNat ≠ fires % 256 →
              exec (.takePlace t) s
                = .next (refused (if r.stamp.toNat = (fires + 255) % 256 then .stale else .early) f none))
            ∧ (stampPasses → b.pool.free = [] → exec (.takePlace t) s = .next (refused .poolEmpty f none))
            ∧ (stampPasses → b.pool.free ≠ [] → o = .thermal → b.pool.free.length ≤ b.limits.reserve →
              exec (.takePlace t) s = .next (refused .poolLow f none))
            ∧ (stampPasses → poolPasses → ∀ reason blocking, b.planFit q = .refused reason blocking →
              exec (.takePlace t) s = .next (refused reason f blocking))
            ∧ (stampPasses → poolPasses → ∀ marks placed bc, b.planFit q = .accepted marks placed bc →
              let m := b.displaceMarked marks
              ∀ (slot : Slot) (free : List Slot), m.pool.free = slot :: free →
                let crossed := b.limits.reserve < m.pool.free.length ∧ free.length ≤ b.limits.reserve
                let popped := if crossed then (m.raiseFlag .fuel .poolLow).raiseFlag .thermal .poolLow else m
                let x : Record :=
                  { slot := slot, owner := o, tag := r.tag, carried := false, cylinder := c, kind := k, offset := q.offset,
                    start := S, duration := placed, priority := q.priority, repeats := r.repeats.toNat, report := r.report,
                    check := false, phase := .pending }
                let f' : ClampFlags := { f with budget := bc }
                exec (.takePlace t) s = .next
                  (((popped.setPool (Pool.insert { m.pool with free := free } { x with check := x.parity })).clampRaised
                    o f').append o.link (.placed slot r.tag f' (!b.enabled c) marks.length placed))))

/-- What an accepted plan marks and leaves. It marks the whole conflict set in its order; at the cap the one record that yields first, lowest
priority and then largest offset; and for the budget, one record at a time in that order, only while the durations do not fit. Every marked
record is PENDING and strictly below the request's priority, and marked once. The records left conflict with the request nowhere, leave room
under the cap, and with its duration keep within the budget; a fuel MAIN alone is shortened, to exactly what the budget leaves, never below 20. -/
def Obligations.PlanAcceptedFits : Prop :=
  ∀ (s : State) (q : PlanInput) (marks : List Mark) (d : Nat) (bc : Bool), s.pool.partitioned → s.withinCap →
    s.planFit q = .accepted marks d bc →
      let left (c : Cylinder) : List Record :=
        (s.pool.lists.get c).filter fun r => some r.slot != q.exclude && !(marks.any fun m => m.record.slot == r.slot)
      let total (rs : List Record) : Nat := (rs.map fun r => r.duration).sum
      let own (out : List Record) : List Record :=
        (s.pool.lists.get q.cylinder).filter fun r =>
          some r.slot != q.exclude && !((s.conflictSet q ++ out).any fun x => x.slot == r.slot)
      let yields (r : Record) : Prop := r.phase = .pending ∧ r.priority < q.priority
      let first (v : Record) (rs : List Record) : Prop :=
        v ∈ rs ∧ yields v ∧ ∀ x ∈ rs, yields x → v.priority < x.priority ∨ (v.priority = x.priority ∧ x.offset ≤ v.offset)
      (∃ capacity budget : List Record,
        marks = (s.conflictSet q).map (fun r => { record := r, cause := .conflict : Mark })
          ++ capacity.map (fun r => { record := r, cause := .capacity : Mark })
          ++ budget.map (fun r => { record := r, cause := .budget : Mark })
        ∧ ((own []).length < s.engine.config.cap → capacity = [])
        ∧ (s.engine.config.cap ≤ (own []).length → ∃ v, capacity = [v] ∧ first v (own []))
        ∧ (∀ before v after, budget = before ++ v :: after →
          s.limits.budget < total (own (capacity ++ before)) + q.duration ∧ first v (own (capacity ++ before)))
        ∧ (bc = true → s.limits.budget < total (own (capacity ++ budget)) + q.duration
          ∧ ∀ x ∈ own (capacity ++ budget), ¬ yields x))
      ∧ (∀ m ∈ marks, m.record ∈ s.pool.records ∧ m.record.isPending = true ∧ m.record.priority < q.priority
        ∧ some m.record.slot ≠ q.exclude)
      ∧ (marks.map fun m => m.record.slot).Nodup
      ∧ (∀ r ∈ left q.cylinder, s.clashes q s.geometry.dwellSpan r = false)
      ∧ (∀ c ∈ s.configured, c ≠ q.cylinder → s.bankOf c = s.bankOf q.cylinder →
        ∀ r ∈ left c, s.clashes q s.geometry.recoverySpan r = false)
      ∧ (left q.cylinder).length < s.engine.config.cap
      ∧ total (left q.cylinder) + d ≤ s.limits.budget
      ∧ (bc = false → d = q.duration)
      ∧ (bc = true → 20 ≤ d ∧ d < q.duration ∧ d = s.limits.budget - total (left q.cylinder) ∧ q.owner = .fuel ∧ q.kind = .main)

/-- Why a plan refuses: CONFLICT names the first record in conflict that is not PENDING and strictly below the request's priority;
CYLINDER_FULL is given only at the cap with no such record to displace; BUDGET only when the records that may not be displaced and the
request exceed the budget, and for a fuel MAIN leave less than 20. The records in conflict are those that the two modular tests find, own list
first under the dwell span, then the lists of the bank's other configured cylinders in increasing number under the recovery span. -/
def Obligations.PlanRefuses : Prop :=
  (∀ (s : State) (q : PlanInput) (gap : Nat) (r : Record),
    let start := modCycle (((s.table.get q.cylinder).tdc : Int) + q.offset)
    let steps (d : Nat) : Nat := (d * 96 + s.geometry.pw - 1) / s.geometry.pw
    s.clashes q gap r = true ↔
      modCycle ((r.start : Int) - start) < steps q.duration + gap ∨ modCycle ((start : Int) - r.start) < steps r.duration + gap)
  ∧ (∀ (s : State) (q : PlanInput),
    let others := ([0, 1, 2, 3, 4, 5, 6, 7] : List Cylinder).filter fun c =>
      c != q.cylinder && s.configured.contains c && s.bankOf c == s.bankOf q.cylinder
    s.conflictSet q
      = ((s.pool.lists.get q.cylinder).filter fun r => some r.slot != q.exclude && s.clashes q s.geometry.dwellSpan r)
        ++ others.flatMap fun c =>
          (s.pool.lists.get c).filter fun r => some r.slot != q.exclude && s.clashes q s.geometry.recoverySpan r)
  ∧ ∀ (s : State) (q : PlanInput) (reason : Reason) (blocking : Option Slot), s.pool.partitioned →
    s.planFit q = .refused reason blocking →
      let yields (r : Record) : Prop := r.phase = .pending ∧ r.priority < q.priority
      let own := (s.pool.lists.get q.cylinder).filter fun r => some r.slot != q.exclude
      let firm := ((own.filter fun r => !(r.isPending && decide (r.priority < q.priority))).map fun r => r.duration).sum
      (reason = .conflict ∧ ∃ before r rest, s.conflictSet q = before ++ r :: rest ∧ (∀ x ∈ before, yields x)
        ∧ ¬ yields r ∧ blocking = some r.slot)
      ∨ (reason = .cylinderFull ∧ blocking = none ∧ (∀ r ∈ s.conflictSet q, yields r)
        ∧ s.engine.config.cap ≤ (own.filter fun r => !(s.clashes q s.geometry.dwellSpan r)).length
        ∧ ∀ r ∈ own, s.clashes q s.geometry.dwellSpan r = false → ¬ yields r)
      ∨ (reason = .budget ∧ blocking = none ∧ (∀ r ∈ s.conflictSet q, yields r) ∧ s.limits.budget < firm + q.duration
        ∧ (q.owner = .fuel → q.kind = .main → s.limits.budget < firm + 20))

/-! ### Commands of the supervisor link -/

/-- SET_LIMIT writes the named limit, brought into its range with status CLAMPED, and nothing else; any other item code is BAD_ARGUMENT.
SET_ENABLE_MASK sets the mask and takes the no-rise streak of every cylinder set in it to 0, and nothing else. -/
def Obligations.SetLimitAndEnableMask : Prop :=
  (∀ (t : Time) (item : Byte) (value : Word16) (s : State),
    let a := s.arrive t
    let v := value.toNat
    let within (lo hi : Nat) : Nat := if v < lo then lo else if hi < v then hi else v
    let written (code : Byte) (x : Nat) (limits : Limits) : Prop :=
      exec (.setLimit t .supervisor code value) s = .next ((a.setLimits limits).respond .supervisor
        (if x = v then .ok else .clamped) 0x20 (code ++ BitVec.ofNat 16 x ++ 0#48))
    a.listens .supervisor →
      written 1 (within 500 4000) { a.limits with overspeed := within 500 4000 }
      ∧ written 2 (within 0 8000) { a.limits with budget := within 0 8000 }
      ∧ written 3 (within 1 15) { a.limits with fuelCeiling := within 1 15 }
      ∧ written 4 (within 1 15) { a.limits with thermalCeiling := within 1 15 }
      ∧ written 5 (within 0 16) { a.limits with reserve := within 0 16 }
      ∧ (item = 0 ∨ 5 < item.toNat →
        exec (.setLimit t .supervisor item value) s = .next (a.respond .supervisor .badArgument 0x20 0)))
  ∧
  (∀ (t : Time) (mask : Byte) (s : State),
    let a := s.arrive t
    a.listens .supervisor → ∃ table : Eight CylinderStatus,
      (∀ c : Cylinder, table.get c
        = if mask.getLsbD c.val then { a.table.get c with streak := 0 } else a.table.get c)
      ∧ exec (.setEnableMask t .supervisor mask) s = .next
        (((a.setLimits { a.limits with enables := mask }).setTable table).respond .supervisor .ok 0x21 (mask ++ 0#64)))

/-- CUT_NOW clears the enables of the cylinders named, then visits bank A and bank B: a running pulse of a named cylinder is truncated, with
RECOVERY, the driven time in the fired total and a TRUNCATED_CUT report, then each waiting record of a named cylinder is suppressed with cause
CUT, from head to tail. It answers how many: no named cylinder keeps a FIRING or RELEASED record or an asserted FIRE line, PENDING records and
those of other cylinders stay, and no fault is raised. -/
def Obligations.CutNow : Prop :=
  ∀ (t : Time) (mask : Byte) (s : State),
    let a := s.arrive t
    let named (r : Record) : Bool := mask.getLsbD r.cylinder.val
    let truncated (x : State) (bank : Bank) : State :=
      match (x.drivers.get bank).state with
      | .firing p =>
        match x.pool.find p.slot with
        | some r =>
          match r.phase with
          | .firing _ actual =>
            if named r then
              let e := x.table.get r.cylinder
              let driven := (t - actual).toNat
              let idle := x.setBank bank
                { x.drivers.get bank with state := .recovery (t + BitVec.ofNat 32 x.engine.config.bankRecovery) }
              let dark := idle.setDrivers { idle.drivers with fire := idle.drivers.fire &&& ~~~(1#8 <<< r.cylinder.val) }
              (dark.setCylinder r.cylinder
                { e with fired := e.fired + driven, streak := if p.peakSeen then 0 else e.streak }).endOpportunity
                p.slot .truncatedCut p.cycle (some actual) driven p.noRise
            else x
          | _ => x
        | none => x
      | _ => x
    let suppressed (x : State) (bank : Bank) : State :=
      (((x.drivers.get bank).waiting.map fun e => e.slot).filter fun k =>
          match x.pool.find k with | some r => named r | none => false).foldl
        (fun y k => y.endOpportunity k (.suppressed .cut) y.clock.cycle none 0 false) x
    a.listens .supervisor → a.timelineSound → ∃ b : State,
      b = suppressed (truncated (suppressed (truncated
        (a.setLimits { a.limits with enables := a.limits.enables &&& ~~~mask }) .bankA) .bankA) .bankB) .bankB ∧
      exec (.cutNow t .supervisor mask) s = .next (b.respond .supervisor .ok 0x22
        (BitVec.ofNat 8 (a.pool.records.countP fun r => named r && r.isFiring)
          ++ BitVec.ofNat 8 (a.pool.records.countP fun r => named r && r.isReleased) ++ 0#56))
      ∧ b.limits = { a.limits with enables := a.limits.enables &&& ~~~mask }
      ∧ (∀ r ∈ b.pool.records, named r = true → r.phase = .pending)
      ∧ (∀ c : Cylinder, b.fireLine c = (a.fireLine c && !mask.getLsbD c.val))
      ∧ (∀ r ∈ a.pool.records, r.phase = .pending ∨ named r = false → r ∈ b.pool.records)
      ∧ (∀ r ∈ b.pool.records, named r = false → r ∈ a.pool.records)
      ∧ (∀ c : Cylinder, (b.table.get c).carry = (a.table.get c).carry ∧ (b.table.get c).released = (a.table.get c).released)
      ∧ b.faults = a.faults ∧ b.clock = a.clock ∧ b.marks = a.marks ∧ b.staging = a.staging ∧ b.engine = a.engine
      ∧ b.timeBase = a.timeBase ∧ b.pending = a.pending

/-- WITHDRAW_ANY frees a PENDING or RELEASED record of either owner with a DISPLACED entry of cause SUPERVISOR and the DISPLACED flag, and
answers what it was; BAD_ARGUMENT, NO_SUCH_RECORD and TOO_LATE otherwise. SCRUB_POOL empties the quarantine list onto the head of the free
list, oldest first, and answers how many slots it returned. -/
def Obligations.WithdrawAnyAndScrub : Prop :=
  (∀ (t : Time) (slot : Byte) (s : State),
    let a := s.arrive t
    a.listens .supervisor →
      (39 < slot.toNat → exec (.withdrawAny t .supervisor slot) s = .next (a.respond .supervisor .badArgument 0x23 0))
      ∧ ∀ k : Slot, k.val = slot.toNat →
        (a.pool.find k = none →
          exec (.withdrawAny t .supervisor slot) s = .next (a.respond .supervisor .noSuchRecord 0x23 0))
        ∧ ∀ r, a.pool.find k = some r →
          (r.isFiring = true →
            exec (.withdrawAny t .supervisor slot) s = .next (a.respond .supervisor .tooLate 0x23 0))
          ∧ (r.isFiring = false →
            exec (.withdrawAny t .supervisor slot) s = .next
              ((((a.dropWaiting k).setPool { a.pool.unlink k with free := k :: a.pool.free }).append r.owner.link
                (.displaced k r.tag r.cylinder r.kind r.carried .supervisor)).raiseFlag r.owner.link .displaced |>.respond
                  .supervisor .ok 0x23 (slot ++ BitVec.ofNat 8 r.owner.code ++ r.tag
                    ++ BitVec.ofNat 8 (cylinderNumber r.cylinder) ++ BitVec.ofNat 8 r.phase.code ++ 0#32))))
  ∧
  (∀ (t : Time) (s : State),
    let a := s.arrive t
    a.listens .supervisor →
      exec (.scrubPool t .supervisor) s = .next
        ((a.setPool
          { a.pool with free := a.pool.quarantine.foldl (fun free r => r.slot :: free) a.pool.free, quarantine := [] }).respond
          .supervisor .ok 0x29 (BitVec.ofNat 8 a.pool.quarantine.length ++ 0#64)))

/-- SET_FAULT_MASK sets the mask. Unmasking OVERSPEED while the overspeed-active flag is set suppresses every RELEASED record with cause OVERSPEED,
bank A's waiting list from head to tail and then bank B's, and leaves no record RELEASED; unmasking
INJECTOR_WATCH while it is pending clears the enables of the configured cylinders whose streak stands at 3; no other unmasking acts, and no
entry is appended for a fault. -/
def Obligations.SetFaultMask : Prop :=
  ∀ (t : Time) (written : Word16) (s : State),
    let a := s.arrive t
    let m := written.setWidth 11
    let opens (bit : Nat) : Bool := a.faults.mask.getLsbD bit && !m.getLsbD bit
    let sweeps := opens 9 && a.limits.overspeedActive
    let disables := opens 10 && a.faults.pending.getLsbD 10
    let swept := ((a.drivers.bankA.waiting ++ a.drivers.bankB.waiting).map fun e => e.slot).foldl
      (fun x k => x.endOpportunity k (.suppressed .overspeed) x.clock.cycle none 0 false) (a.setFaults { a.faults with mask := m })
    a.listens .supervisor → ∃ b : State,
      exec (.setFaultMask t .supervisor written) s = .next (b.respond .supervisor .ok 0x24
        (m.setWidth 16 ++ a.faults.pending.setWidth 16 ++ 0#40))
      ∧ b.faults = { a.faults with mask := m }
      ∧ (a.timelineSound → sweeps = true →
        b.pool = swept.pool ∧ b.drivers = swept.drivers ∧ b.links = swept.links ∧ b.noneReleased)
      ∧ (sweeps = false → b.pool = a.pool ∧ b.drivers = a.drivers ∧ b.links = a.links)
      ∧ (∀ c : Cylinder, b.enabled c
        = (a.enabled c && !(disables && a.configured.contains c && (a.table.get c).streak == 3)))
      ∧ b.limits = { a.limits with enables := b.limits.enables } ∧ b.drivers.fire = a.drivers.fire
      ∧ (b.links.get .supervisor).log = (a.links.get .supervisor).log
      ∧ b.clock = a.clock ∧ b.marks = a.marks ∧ b.table = a.table ∧ b.staging = a.staging ∧ b.engine = a.engine
      ∧ b.timeBase = a.timeBase ∧ b.pending = a.pending

/-- READ_FAULTS and READ_CAPTURE read the pending set, the mask and the capture record; ACK_FAULTS clears the kinds written with 1 and
CLEAR_CAPTURE empties the capture record, answering it as it stood; none changes anything else. -/
def Obligations.FaultUnitCommands : Prop :=
  ∀ (t : Time) (kinds : Word16) (s : State),
    let a := s.arrive t
    let left := a.faults.pending &&& ~~~(kinds.setWidth 11)
    let capture : Data :=
      match a.faults.capture with
      | none => 0
      | some c =>
        BitVec.ofNat 4 c.record.kind.code
          ++ BitVec.ofNat 4 (match c.record.cylinder with | some x => cylinderNumber x | none => 0)
          ++ (match c.record.slot with | some k => BitVec.ofNat 8 k.val | none => 0xFF#8)
          ++ c.record.cycle ++ c.record.time ++ BitVec.ofNat 8 c.follow
    a.listens .supervisor →
      exec (.readFaults t .supervisor) s = .next (a.respond .supervisor .ok 0x25
        (a.faults.pending.setWidth 16 ++ a.faults.mask.setWidth 16 ++ 0#40))
      ∧ exec (.ackFaults t .supervisor kinds) s = .next
        ((a.setFaults { a.faults with pending := left }).respond .supervisor .ok 0x26 (left.setWidth 16 ++ 0#56))
      ∧ exec (.readCapture t .supervisor) s = .next (a.respond .supervisor .ok 0x27 capture)
      ∧ exec (.clearCapture t .supervisor) s = .next
        ((a.setFaults { a.faults with capture := none }).respond .supervisor .ok 0x28 capture)

/-! ### The engine configuration -/

/-- CONFIG_WRITE: refused with ENGINE_RUNNING while the clock is not STOPPED, with TIMELINE_BUSY while a record stands, with BAD_ARGUMENT for
an item code not 1 to 18 or a value out of its range; else it replaces the item and clears the valid flag, and nothing else. -/
def Obligations.ConfigWrite : Prop :=
  ∀ (t : Time) (value : Data) (s : State),
    let a := s.arrive t
    let c := a.engine.config
    let byte := (value.extractLsb' 64 8).toNat
    let word := (value.extractLsb' 56 16).toNat
    let word2 := (value.extractLsb' 40 16).toNat
    let lo := (value.extractLsb' 56 16).toInt
    let hi := (value.extractLsb' 40 16).toInt
    let entry (i : Fin 8) : Nat := (value.extractLsb' (64 - 8 * i.val) 8).toNat
    let refused (item : Byte) (status : Status) : Prop :=
      exec (.configWrite t .supervisor item value) s = .next (a.respond .supervisor status 0x2C 0)
    let takes (item : Byte) (x : EngineConfig) : Prop :=
      exec (.configWrite t .supervisor item value) s = .next
        ((a.setEngine { config := x, valid := false, geometry := none }).respond .supervisor .ok 0x2C (item ++ 0#64))
    let ranged (item : Byte) (inside : Prop) (x : EngineConfig) : Prop :=
      (inside → takes item x) ∧ (¬ inside → refused item .badArgument)
    let steps := -5760 ≤ lo ∧ lo ≤ 5759 ∧ -5760 ≤ hi ∧ hi ≤ 5759
    a.listens .supervisor →
      (∀ item, a.clock.sync ≠ .stopped → refused item .engineRunning)
      ∧ (∀ item, a.clock.sync = .stopped → a.pool.records ≠ [] → refused item .timelineBusy)
      ∧ (a.clock.sync = .stopped → a.pool.records = [] →
        (∀ item : Byte, item = 0 ∨ 18 < item.toNat → refused item .badArgument)
        ∧ ranged 1 (byte = 4 ∨ byte = 6 ∨ byte = 8) { c with cylinderCount := byte }
        ∧ (∀ order : Vector (Fin 9) 8, (∀ i : Fin 8, (order.get i).val = entry i) → takes 2 { c with firingOrder := order })
        ∧ (∀ i, 8 < entry i → refused 2 .badArgument)
        ∧ takes 3 { c with bankMap := value.extractLsb' 64 8 }
        ∧ ranged 4 (word ≤ 11519) { c with tdc1 := word }
        ∧ ranged 5 (word ≤ 11519 ∧ word2 ≤ 11519) { c with camLo := word, camHi := word2 }
        ∧ ranged 6 (288 ≤ word ∧ word ≤ 960) { c with lead := word }
        ∧ ranged 7 (1000 ≤ word ∧ word ≤ 4000) { c with speed := word }
        ∧ ranged 8 (20 ≤ word ∧ word ≤ 2000) { c with minDwell := word }
        ∧ ranged 9 (10 ≤ word ∧ word ≤ 500) { c with bankRecovery := word }
        ∧ ranged 10 (word ≤ 500) { c with maxSlip := word }
        ∧ ranged 11 (50 ≤ word ∧ word ≤ 1000) { c with peakDeadline := word }
        ∧ ranged 12 (50 ≤ word ∧ word ≤ 1000) { c with stallTimeout := word }
        ∧ ranged 13 steps { c with preWindow := { lo := lo, hi := hi } }
        ∧ ranged 14 steps { c with mainWindow := { lo := lo, hi := hi } }
        ∧ ranged 15 steps { c with afterWindow := { lo := lo, hi := hi } }
        ∧ ranged 16 steps { c with lateWindow := { lo := lo, hi := hi } }
        ∧ ranged 17 (1 ≤ byte ∧ byte ≤ 6) { c with cap := byte }
        ∧ ranged 18 (byte ≤ 15) { c with carryLimit := byte })

/-- CONFIG_READ: the supervisor link alone may carry it; an item code not 1 to 18 is BAD_ARGUMENT; else it answers the valid flag and the
item's value as last written, in the form CONFIG_WRITE takes, and changes nothing else. -/
def Obligations.ConfigRead : Prop :=
  (∀ (t : Time) (l : Link) (item : Byte) (s : State),
    let a := s.arrive t
    a.listens l →
      (l ≠ .supervisor → exec (.configRead t l item) s = .next (a.respond l .notPermitted 0x2D 0))
      ∧ (l = .supervisor → item = 0 ∨ 18 < item.toNat →
        exec (.configRead t l item) s = .next (a.respond l .badArgument 0x2D 0))
      ∧ (l = .supervisor → 1 ≤ item.toNat → item.toNat ≤ 18 → ∃ held : BitVec 64,
        exec (.configRead t l item) s
          = .next (a.respond l .ok 0x2D ((0#7 ++ BitVec.ofBool a.engine.valid) ++ held))))
  ∧ (∀ (c c' : EngineConfig) (item : Byte) (value : Data), c.write item.toNat value = some c' →
    let width : Nat :=
      match item.toNat with
      | 1 | 3 | 17 | 18 => 1
      | 2 => 8
      | 5 | 13 | 14 | 15 | 16 => 4
      | _ => 2
    (∀ (t : Time) (s : State), (s.arrive t).listens .supervisor → (s.arrive t).engine.config = c' →
      exec (.configRead t .supervisor item) s = .next ((s.arrive t).respond .supervisor .ok 0x2D
        ((0#7 ++ BitVec.ofBool (s.arrive t).engine.valid)
          ++ (value.extractLsb' 8 64 &&& (BitVec.allOnes 64 <<< (64 - 8 * width))))))
    ∧ ∀ other : Nat, other ≠ item.toNat → c'.read other = c.read other)

/-- COMMIT_CONFIG: refused with ENGINE_RUNNING, TIMELINE_BUSY, or CONFIG_INCONSISTENT with the item of the first check that fails; else it sets
the valid flag, derives the geometry, and sets every cylinder's bank and TDC, its totals and carry cleared and its streak kept. -/
def Obligations.CommitConfig : Prop :=
  ∀ (t : Time) (s : State),
    let a := s.arrive t
    let c := a.engine.config
    let n := c.cylinderCount
    let entries := (c.firingOrder.toList.take n).map fun e => e.val
    let answers (x : State) (status : Status) (data : Data) : Prop :=
      exec (.commitConfig t .supervisor) s = .next (x.respond .supervisor status 0x2E data)
    let inconsistent (item : Byte) : Prop := answers a .configInconsistent (item ++ 0#64)
    let order := ∀ k, 1 ≤ k → k ≤ n → entries.count k = 1
    let banks := (∃ i, i < n ∧ c.bankMap.getLsbD i = true) ∧ ∃ i, i < n ∧ c.bankMap.getLsbD i = false
    let cam := 1 ≤ modCycle ((c.camHi : Int) - c.camLo) ∧ modCycle ((c.camHi : Int) - c.camLo) ≤ 5759
    let open' (w : Window) : Prop := w.lo ≤ w.hi
    let pw := 1000000 / c.speed
    a.listens .supervisor → n = 4 ∨ n = 6 ∨ n = 8 →
      (a.clock.sync ≠ .stopped → answers a .engineRunning 0)
      ∧ (a.clock.sync = .stopped → a.pool.records ≠ [] → answers a .timelineBusy 0)
      ∧ (a.clock.sync = .stopped → a.pool.records = [] →
        (¬ order → inconsistent 2)
        ∧ (order → ¬ banks → inconsistent 3)
        ∧ (order → banks → ¬ cam → inconsistent 5)
        ∧ (order → banks → cam → ¬ open' c.preWindow → inconsistent 13)
        ∧ (order → banks → cam → open' c.preWindow → ¬ open' c.mainWindow → inconsistent 14)
        ∧ (order → banks → cam → open' c.preWindow → open' c.mainWindow → ¬ open' c.afterWindow → inconsistent 15)
        ∧ (order → banks → cam → open' c.preWindow → open' c.mainWindow → open' c.afterWindow → ¬ open' c.lateWindow →
          inconsistent 16)
        ∧ (order → banks → cam → open' c.preWindow → open' c.mainWindow → open' c.afterWindow → open' c.lateWindow →
          ∃ (cylinders : List Cylinder) (table : Eight CylinderStatus),
            cylinders.map cylinderNumber = entries
            ∧ (∀ (p : Nat) (x : Cylinder), cylinders[p]? = some x → table.get x =
              { bank := some (if c.bankMap.getLsbD x.val then .bankB else .bankA)
                tdc := (c.tdc1 + p * (11520 / n)) % 11520
                released := 0, fired := 0, lastFired := 0, carry := none, carryCount := 0
                streak := (a.table.get x).streak })
            ∧ (∀ x : Cylinder, n < cylinderNumber x → table.get x =
              { bank := none, tdc := 0, released := 0, fired := 0, lastFired := 0, carry := none, carryCount := 0,
                streak := (a.table.get x).streak })
            ∧ answers
              ((a.setEngine
                { config := c, valid := true
                  geometry := some
                    { order := cylinders, pw := pw, dwellSpan := (c.minDwell * 96 + (pw - 1)) / pw
                      recoverySpan := (c.bankRecovery * 96 + (pw - 1)) / pw } }).setTable table)
              .ok (1#8 ++ BitVec.ofNat 8 n ++ 0#56)))

/-! ### The angle clock -/

/-- A crank edge outside SYNCED: ignored while the configuration is not valid, discarded by the noise filter, the first tooth after STOPPED,
and the teeth of HUNT and GAP_FOUND; only the overspeed check takes their advance, and only after a normal interval. A fault raised at the tooth
is taken by the fault unit; a SYNC_ERROR and an OVERSPEED of one tooth are taken in the order of the turns (the model's operand, log 5). -/
def Obligations.CrankEdgeUnsynced : Prop :=
  ∀ (t : Time) (o : List EdgeTurn) (s : State),
    let a := s.arrive t
    let i := (t - a.clock.lastTooth).toNat
    let next := if a.clock.tooth = 57 then 0 else a.clock.tooth + 1
    let taken : Clock :=
      { a.clock with lastTooth := t, stall := some (t + BitVec.ofNat 32 (a.engine.config.stallTimeout * 1000)) }
    let checked (x : State) : State :=
      if x.limits.overspeedActive = false ∧ x.limits.overspeed < 1000000 / i then
        (((x.setLimits { x.limits with overspeedActive := true }).handFault .limits .overspeed none none).reactUnmasked .overspeed
          none).takeRaised
      else if x.limits.overspeedActive = true ∧ 1000000 / i + 100 ≤ x.limits.overspeed then
        x.setLimits { x.limits with overspeedActive := false }
      else x
    let lost (c : Clock) : State :=
      let e := (a.setClock c).handFault .clock .syncError none none
      (e.setClock { e.clock with sync := .hunt, normalSeen := false }).raiseSync
    let runs (x : State) : Prop := exec (.crankEdge t o) s = .next x
    (a.engine.valid = false → runs a)
    ∧ (a.engine.valid = true → a.faults.raised = [] →
      (a.clock.sync = .stopped → runs
        (a.setClock { taken with sync := .hunt, period := none, normalSeen := false }).raiseSync)
      ∧ (a.clock.sync ≠ .stopped → a.clock.period = none → i = 0 → runs a)
      ∧ (a.clock.sync = .hunt → a.clock.period = none → i ≠ 0 → runs
        (checked (a.setClock { taken with period := some i, normalSeen := true })))
      ∧ ∀ p, a.clock.period = some p →
        (a.clock.sync ≠ .stopped → 4 * i < p → runs a)
        ∧ (a.clock.sync = .hunt → p ≤ 4 * i → i < 2 * p → runs
          (checked (a.setClock { taken with period := some i, normalSeen := true })))
        ∧ (a.clock.sync = .hunt → p ≤ 4 * i → 2 * p ≤ i → a.clock.normalSeen = false → runs (a.setClock taken))
        ∧ (a.clock.sync = .hunt → p ≤ 4 * i → 2 * p ≤ i → a.clock.normalSeen = true → runs
          (a.setClock { taken with sync := .gapFound, tooth := 0, lastAngle := 0, normalSeen := false }).raiseSync)
        ∧ (a.clock.sync = .gapFound → p ≤ 4 * i → i < 2 * p → next ≠ 0 → runs
          (checked (a.setClock { taken with period := some i, tooth := next, lastAngle := 96 * next })))
        ∧ (a.clock.sync = .gapFound → p ≤ 4 * i → 2 * p ≤ i → next = 0 → runs
          (a.setClock { taken with tooth := 0, lastAngle := 0 }))
        ∧ (a.clock.sync = .gapFound → p ≤ 4 * i → i < 2 * p → next = 0 → runs ((lost { taken with period := some i }).takeAdvance o
          { state := .hunt, time := t, cls := .normal, period := some i, angles := none, cycle := a.clock.cycle }))
        ∧ (a.clock.sync = .gapFound → p ≤ 4 * i → 2 * p ≤ i → next ≠ 0 → runs (lost taken).takeRaised))

/-- A crank edge in SYNCED: a correct tooth takes its index, revolution and cycle angle, the reference tooth counts a cycle and closes the cam
history, and every unit takes the advance from the old angle to the new; a second opposite cycle or a gap out of place leaves SYNCED. The
release unit, the overspeed check, both bank drivers and the marks take an advance once each, and the fault unit takes each fault raised at the
tooth in an event of its own after it was raised, those of one block in the order raised, all in the order of the turns (the model's operand,
log 5). -/
def Obligations.CrankEdgeSynced : Prop :=
  let units : List Block := [.release, .limits, .driver .bankA, .driver .bankB, .marks]
  (∀ (s : State) (turns : List EdgeTurn) (adv : Advance), (adv.angles ≠ none → adv.period ≠ none) →
    let check (x : State) : State :=
      match adv.cls, adv.period with
      | .normal, some p =>
        if x.limits.overspeedActive = false ∧ x.limits.overspeed < 1000000 / p then
          ((x.setLimits { x.limits with overspeedActive := true }).handFault .limits .overspeed none none).reactUnmasked .overspeed none
        else if x.limits.overspeedActive = true ∧ 1000000 / p + 100 ≤ x.limits.overspeed then
          x.setLimits { x.limits with overspeedActive := false }
        else x
      | _, _ => x
    let act (x : State) (k : Block) : State :=
      match k, adv.angles, adv.period with
      | .limits, _, _ => check x
      | .release, some (old, new), some p => x.releaseEvent old new p
      | .driver b, some _, some _ => x.takeDecisions b
      | .marks, some (old, new), some _ => x.marksTake old new adv
      | _, _, _ => x
    let turn (w : State × List Block) (y : EdgeTurn) : State × List Block :=
      match y with
      | .acts k => if w.2.contains k then (act w.1 k, w.2.erase k) else w
      | .fault k =>
        match w.1.faults.raised.find? fun z => z.block == k with
        | none => w
        | some z =>
          ((w.1.setFaults { w.1.faults with raised := w.1.faults.raised.eraseP fun v => v.block == k }).takeFault z.record, w.2)
    s.takeAdvance turns adv = ((turns ++ units.map EdgeTurn.acts).foldl turn (s, units)).1.takeRaised
    ∧ ∀ ks : List Block, ks.Perm units → s.takeAdvance (ks.map EdgeTurn.acts) adv = (ks.foldl act s).takeRaised)
  ∧ ∀ (t : Time) (o : List EdgeTurn) (p : Nat) (s : State),
    let a := s.arrive t
    let i := (t - a.clock.lastTooth).toNat
    let next := if a.clock.tooth = 57 then 0 else a.clock.tooth + 1
    let taken : Clock :=
      { a.clock with lastTooth := t, stall := some (t + BitVec.ofNat 32 (a.engine.config.stallTimeout * 1000)) }
    let runs (x : State) : Prop := exec (.crankEdge t o) s = .next x
    let advance (cls : IntervalClass) (p : Nat) (new : Nat) (cycle : Word16) : Advance :=
      { state := .synced, time := t, cls := cls, period := some p, angles := some (a.clock.lastAngle, new), cycle := cycle }
    let noAngles (state : SyncState) (cls : IntervalClass) (p : Nat) (cycle : Word16) : Advance :=
      { state := state, time := t, cls := cls, period := some p, angles := none, cycle := cycle }
    let empty : CamHistory := { seen := false, good := false, opposite := false, verdict := false }
    let reference := a.setClock
      { taken with tooth := 0, revolution := 0, lastAngle := 0, cycle := a.clock.cycle + 1 }
    let closed (x : State) (cam : CamHistory) : State :=
      (x.setClock { x.clock with cam := cam }).takeAdvance o (advance .gapLike p 0 (a.clock.cycle + 1))
    let lost (c : Clock) : State :=
      let e := (a.setClock c).handFault .clock .syncError none none
      (e.setClock { e.clock with sync := .hunt, normalSeen := false }).raiseSync.leavingSynced
    a.engine.valid = true → a.clock.sync = .synced → a.clock.period = some p → p ≤ 4 * i →
      (i < 2 * p → next ≠ 0 →
        let new := 96 * next + 5760 * a.clock.revolution.val
        runs ((a.setClock { taken with period := some i, tooth := next, lastAngle := new }).takeAdvance o
          (advance .normal i new a.clock.cycle)))
      ∧ (2 * p ≤ i → next = 0 → a.clock.revolution = 0 → runs
        ((a.setClock { taken with tooth := 0, revolution := 1, lastAngle := 5760 }).takeAdvance o
          (advance .gapLike p 5760 a.clock.cycle)))
      ∧ (2 * p ≤ i → next = 0 → a.clock.revolution = 1 →
        (a.clock.cam.seen = false → runs (closed (reference.handFault .clock .camFault none none) empty))
        ∧ (a.clock.cam.seen = true → a.clock.cam.opposite = true → a.clock.cam.good = false →
          a.clock.cam.verdict = false → runs (closed reference { empty with verdict := true }))
        ∧ (a.clock.cam.seen = true → a.clock.cam.opposite = true → a.clock.cam.good = false →
          a.clock.cam.verdict = true →
          let e := reference.handFault .clock .phaseError none none
          runs ((e.setClock { e.clock with sync := .gapFound, cam := empty }).raiseSync.leavingSynced.takeAdvance o
            (noAngles .gapFound .gapLike p (a.clock.cycle + 1))))
        ∧ (a.clock.cam.seen = true → (a.clock.cam.opposite = false ∨ a.clock.cam.good = true) →
          runs (closed reference empty)))
      ∧ (i < 2 * p → next = 0 → runs ((lost { taken with period := some i }).takeAdvance o (noAngles .hunt .normal i a.clock.cycle)))
      ∧ (2 * p ≤ i → next ≠ 0 → runs ((lost taken).takeAdvance o (noAngles .hunt .gapLike p a.clock.cycle)))

/-- A cam edge: ignored in STOPPED and HUNT; in GAP_FOUND it finds the revolution whose cam window holds it and enters SYNCED; in SYNCED it is
good, opposite, or other with CAM_FAULT. -/
def Obligations.CamEdge : Prop :=
  ∀ (t : Time) (s : State),
    let a := s.arrive t
    let runs (x : State) : Prop := exec (.camEdge t) s = .next x
    let inWindow (x : Nat) : Prop :=
      modCycle ((x : Int) - a.engine.config.camLo) ≤ modCycle ((a.engine.config.camHi : Int) - a.engine.config.camLo)
    let phased (revolution : Fin 2) : State :=
      (a.setClock
        { a.clock with
          sync := .synced, revolution := revolution, lastAngle := a.clock.lastAngle + 5760 * revolution.val
          cam := { seen := true, good := true, opposite := false, verdict := false } }).raiseSync
    ((a.clock.sync = .stopped ∨ a.clock.sync = .hunt) → runs a)
    ∧ ∀ p, a.clock.period = some p →
      let r := a.clock.lastAngle + min (if a.clock.tooth = 57 then 287 else 95) ((t - a.clock.lastTooth).toNat * 96 / p)
      (a.clock.sync = .gapFound →
        (inWindow r → runs (phased 0))
        ∧ (¬ inWindow r → inWindow (r + 5760) → runs (phased 1))
        ∧ (¬ inWindow r → ¬ inWindow (r + 5760) → runs a))
      ∧ (a.clock.sync = .synced →
        (inWindow r → runs (a.setClock { a.clock with cam := { a.clock.cam with seen := true, good := true } }))
        ∧ (¬ inWindow r → inWindow ((r + 5760) % 11520) →
          runs (a.setClock { a.clock with cam := { a.clock.cam with seen := true, opposite := true } }))
        ∧ (¬ inWindow r → ¬ inWindow ((r + 5760) % 11520) →
          runs ((a.raiseFault .camFault none none).setClock { a.clock with cam := { a.clock.cam with seen := true } })))

/-- An angle lies in the cam window when it lies no further past `lo` than `hi` does; with a span below one revolution no two angles one
revolution apart both lie in it. -/
def Obligations.CamWindow : Prop :=
  (∀ lo hi x : Nat, inCamWindow lo hi x = true ↔ ((x : Int) - lo) % 11520 ≤ ((hi : Int) - lo) % 11520)
  ∧ ∀ lo hi x : Nat, ((hi : Int) - lo) % 11520 < 5760 → inCamWindow lo hi x = true →
    inCamWindow lo hi (x + 5760) = false

/-- STALL_EXPIRY at an armed expiry that has been reached: STOPPED, P absent, the cam history cleared, the timer idle, SYNC raised, the RELEASED
records returned when the clock was SYNCED, the carry entries and counts cleared. Before that, and in STOPPED, it changes nothing. -/
def Obligations.StallExpiry : Prop :=
  ∀ (t : Time) (s : State),
    let a := s.arrive t
    let stopped := (a.setClock
      { a.clock with
        sync := .stopped, period := none, normalSeen := false, stall := none
        cam := { seen := false, good := false, opposite := false, verdict := false } }).raiseSync
    (a.clock.sync = .stopped → exec (.stallExpiry t) s = .next a)
    ∧ ∀ ends, a.clock.stall = some ends →
      (2 ^ 31 ≤ (t - ends).toNat → exec (.stallExpiry t) s = .next a)
      ∧ ((t - ends).toNat < 2 ^ 31 →
        (a.clock.sync = .synced → exec (.stallExpiry t) s = .next stopped.leavingSynced.clearCarry)
        ∧ (a.clock.sync = .hunt ∨ a.clock.sync = .gapFound → exec (.stallExpiry t) s = .next stopped.clearCarry))

/-- The leaving-SYNCED notice: every RELEASED record leaves its waiting list and is PENDING again with its repeat kept, or freed when marked
final, with no entry; FIRING and PENDING records, bank states and FIRE lines stay. It holds for every order of the frees, which the spec leaves
free (log 7). -/
def Obligations.LeavingSyncedNotice : Prop :=
  ∀ s : State, s.timelineSound →
    let u := s.leavingSynced
    let returned (r : Record) : Record := if r.isReleased then { r with phase := .pending } else r
    (∀ c, u.pool.lists.get c
      = ((s.pool.lists.get c).filter fun r => !(r.isReleased && r.final)).map returned)
    ∧ (∀ b, u.drivers.get b = { s.drivers.get b with waiting := [] }) ∧ u.drivers.fire = s.drivers.fire
    ∧ (∃ freed : List Slot, freed.Perm ((s.pool.records.filter fun r => r.isReleased && r.final).map fun r => r.slot)
      ∧ u.pool.free = freed ++ s.pool.free)
    ∧ u.pool.quarantine = s.pool.quarantine ∧ u.links = s.links ∧ u.table = s.table ∧ u.faults = s.faults
    ∧ u.clock = s.clock ∧ u.limits = s.limits ∧ u.staging = s.staging ∧ u.marks = s.marks ∧ u.engine = s.engine
    ∧ u.timeBase = s.timeBase ∧ u.pending = s.pending

/-! ### The release unit and the marks -/

/-- The release of a PENDING record at its release point: quarantine when its check fails, SUPPRESSED when its cylinder is disabled or overspeed
suppression is in force, BUDGET_SKIPPED when the budget leaves less than 20, else RELEASED with its planned start, counted in the released
total, in its bank's waiting list at the place of its planned start, then its firing position, then its offset. The release event visits the
configured cylinders in firing order: boundary, carry-over, release of the PENDING records whose release point was passed, in list order,
recomputation of those RELEASED before. A check fails when one stored bit of one covered field is changed (the stored widths and codes are
the model's, log 8). -/
def Obligations.ReleaseStep : Prop :=
  (∀ (s : State) (old new p : Nat),
    s.releaseEvent old new p = s.configured.foldl (fun x c =>
      let y := (x.boundaryStep c old new).carryStep c old new
      let past (r : Record) : Nat := modCycle ((modCycle ((r.start : Int) - y.engine.config.lead) : Int) - old)
      let passed := (y.pool.lists.get c).filter fun r =>
        r.isPending && decide (1 ≤ past r ∧ past r ≤ modCycle ((new : Int) - old))
      let before := (y.pool.lists.get c).filter Record.isReleased
      let z := passed.foldl (fun z r => z.releaseOne r.slot new p) y
      before.foldl (fun z r => z.recomputeOne r.slot old new p) z) s)
  ∧ (∀ r : Record, r.check = r.parity →
    let flips (w x y : Nat) : Prop := ∃ i, i < w ∧ BitVec.ofNat w y = BitVec.ofNat w x ^^^ (1#w <<< i)
    let fails (y : Record) : Prop := y.check ≠ y.parity
    fails { r with check := !r.check } ∧ fails { r with carried := !r.carried } ∧ fails { r with report := !r.report }
    ∧ (∀ x, flips 8 r.tag.toNat x.toNat → fails { r with tag := x })
    ∧ (∀ x, flips 4 (cylinderNumber r.cylinder) (cylinderNumber x) → fails { r with cylinder := x })
    ∧ (∀ x, flips 3 r.kind.code x.code → fails { r with kind := x })
    ∧ (∀ x, flips 16 (BitVec.ofInt 16 r.offset).toNat (BitVec.ofInt 16 x).toNat → fails { r with offset := x })
    ∧ (∀ x, flips 14 r.start x → fails { r with start := x }) ∧ (∀ x, flips 16 r.duration x → fails { r with duration := x })
    ∧ (∀ x, flips 4 r.priority x → fails { r with priority := x }) ∧ ∀ x, flips 8 r.repeats x → fails { r with repeats := x })
  ∧ ∀ (s : State) (k : Slot) (r : Record) (at' p : Nat), s.pool.find k = some r → r.phase = .pending →
    let u := s.releaseOne k at' p
    let e := s.table.get r.cylinder
    let B := s.limits.budget
    let d := if e.released + r.duration ≤ B then r.duration else B - e.released
    let f : FiringFields := { duration := d, shortened := !decide (e.released + r.duration ≤ B), final := false }
    let T := s.timeBase + BitVec.ofNat 32 ((modCycle ((r.start : Int) - at') * p + 48) / 96)
    (r.check ≠ r.parity → u
      = (((s.setPool { s.pool.unlink k with quarantine := s.pool.quarantine ++ [r] }).append r.owner.link
          (.displaced k r.tag r.cylinder r.kind r.carried .integrity)).raiseFlag r.owner.link .displaced).handFault
          .release .integrity (some r.cylinder) (some k))
    ∧ (r.check = r.parity →
      (s.enabled r.cylinder = false → u = s.endOpportunity k (.suppressed .disabled) s.clock.cycle none 0 false)
      ∧ (s.enabled r.cylinder = true → s.limits.overspeedActive = true → s.faults.mask.getLsbD 9 = false →
        u = s.endOpportunity k (.suppressed .overspeed) s.clock.cycle none 0 false)
      ∧ (s.enabled r.cylinder = true → (s.limits.overspeedActive = false ∨ s.faults.mask.getLsbD 9 = true) →
        (B < e.released + r.duration → (B : Int) - e.released < 20 →
          u = s.endOpportunity k .budgetSkipped s.clock.cycle none 0 false)
        ∧ ((e.released + r.duration ≤ B ∨ 20 ≤ (B : Int) - e.released) →
          u.pool = s.pool.update k (fun x => { x with phase := .released f T })
          ∧ u.table = s.table.set r.cylinder { e with released := e.released + d }
          ∧ (∃ before after,
            (s.drivers.get (s.bankOf r.cylinder)).waiting = before ++ after
            ∧ (u.drivers.get (s.bankOf r.cylinder)).waiting = before ++ { slot := k, late := false } :: after
            ∧ (s.timelineSound → (∀ x ∈ before, ¬ u.startsBefore k x.slot) ∧ ∀ x ∈ after.head?, u.startsBefore k x.slot))
          ∧ (∀ b, b ≠ s.bankOf r.cylinder → u.drivers.get b = s.drivers.get b)
          ∧ u.drivers.fire = s.drivers.fire ∧ u.links = s.links ∧ u.faults = s.faults ∧ u.limits = s.limits)))

/-- The recomputation of a RELEASED record at a tooth: one with the late note stays; one whose start angle the tooth passed is due at the tooth
time with the late note; any other takes a planned start from the tooth's angle, time and P. Its entry moves to the place of its planned
start, then its firing position, then its offset; the other entries keep their order. -/
def Obligations.RecomputeStep : Prop :=
  ∀ (s : State) (k : Slot) (r : Record) (f : FiringFields) (T : Time) (old new p : Nat), s.timelineSound →
    s.pool.find k = some r → r.phase = .released f T →
      let u := s.recomputeOne k old new p
      let d := modCycle ((r.start : Int) - old)
      let passed := 1 ≤ d ∧ d ≤ modCycle ((new : Int) - old)
      let late := ∃ e ∈ s.drivers.bankA.waiting ++ s.drivers.bankB.waiting, e.slot = k ∧ e.late = true
      let due (planned : Time) (note : Bool) : Prop :=
        u.pool = s.pool.update k (fun x => { x with phase := .released f planned })
        ∧ (∃ before after,
          (s.drivers.get (s.bankOf r.cylinder)).waiting.filter (fun e => e.slot != k) = before ++ after
          ∧ (u.drivers.get (s.bankOf r.cylinder)).waiting = before ++ { slot := k, late := note } :: after
          ∧ (∀ x ∈ before, ¬ u.startsBefore k x.slot) ∧ ∀ x ∈ after.head?, u.startsBefore k x.slot)
        ∧ (∀ b, b ≠ s.bankOf r.cylinder → u.drivers.get b = s.drivers.get b)
        ∧ u.drivers.fire = s.drivers.fire ∧ u.table = s.table ∧ u.links = s.links ∧ u.faults = s.faults
      (late → u = s)
      ∧ (¬ late → passed → due s.timeBase true)
      ∧ (¬ late → ¬ passed →
        due (s.timeBase + BitVec.ofNat 32 ((modCycle ((r.start : Int) - new) * p + 48) / 96)) false)

/-- The firing boundary closes a cylinder's firing; the carry-over decision acts only on an enabled cylinder with no fuel MAIN while the
overspeed-active flag is clear, and raises DRY_CYLINDER with no carry entry, at the carry limit, or when the carried MAIN is refused. An
accepted one displaces the marked records with their DISPLACED entries, pops the head of the free list with POOL_LOW when that crosses the
reserve, and fills it; the carry count goes up and CARRY is raised, CLAMP too when the budget shortened it, and no PLACED entry is made. -/
def Obligations.BoundaryAndCarry : Prop :=
  ∀ (s : State) (c : Cylinder) (old new : Nat),
    let e := s.table.get c
    let scanned (x : Nat) : Prop :=
      1 ≤ modCycle ((x : Int) - old) ∧ modCycle ((x : Int) - old) ≤ modCycle ((new : Int) - old)
    let point := modCycle ((e.tdc : Int) + s.engine.config.mainWindow.lo - s.engine.config.lead)
    let decides := scanned point ∧ s.enabled c = true ∧ s.limits.overspeedActive = false
      ∧ ∀ r ∈ s.pool.lists.get c, ¬ (r.owner = .fuel ∧ r.kind = .main)
    let dry := s.handFault .release .dryCylinder (some c) none
    (scanned ((e.tdc + 5760) % 11520) →
      s.boundaryStep c old new = s.setCylinder c { e with lastFired := e.fired, fired := 0, released := 0 })
    ∧ (¬ scanned ((e.tdc + 5760) % 11520) → s.boundaryStep c old new = s)
    ∧ (¬ decides → s.carryStep c old new = s)
    ∧ (decides → e.carry = none → s.carryStep c old new = dry)
    ∧ (decides → s.engine.config.carryLimit ≤ e.carryCount → s.carryStep c old new = dry)
    ∧ ∀ x, decides → e.carry = some x → e.carryCount < s.engine.config.carryLimit →
      let q : PlanInput :=
        { owner := .fuel, cylinder := c, kind := .main, offset := x.offset, duration := x.duration,
          priority := s.limits.fuelCeiling, exclude := none }
      (s.pool.free = [] → s.carryStep c old new = dry)
      ∧ (∀ reason blocking, s.planFit q = .refused reason blocking → s.carryStep c old new = dry)
      ∧ ∀ marks d bc, s.pool.free ≠ [] → s.planFit q = .accepted marks d bc →
        let u := s.carryStep c old new
        let m := s.displaceMarked marks
        u.table = s.table.set c { e with carryCount := e.carryCount + 1 }
        ∧ (u.links.get .fuel).sticky.getLsbD 9 = true
        ∧ (bc = true → (u.links.get .fuel).sticky.getLsbD 6 = true)
        ∧ u.faults = s.faults ∧ (∀ l, (u.links.get l).log = (m.links.get l).log)
        ∧ ∃ (slot : Slot) (free : List Slot), m.pool.free = slot :: free ∧
          let crossed := s.limits.reserve < m.pool.free.length ∧ free.length ≤ s.limits.reserve
          let popped := if crossed then (m.raiseFlag .fuel .poolLow).raiseFlag .thermal .poolLow else m
          let r : Record :=
            { slot := slot, owner := .fuel, tag := 0, carried := true, cylinder := c, kind := .main, offset := x.offset,
              start := modCycle ((e.tdc : Int) + x.offset), duration := d, priority := s.limits.fuelCeiling, repeats := 1,
              report := true, check := false, phase := .pending }
          let filled := popped.setPool (Pool.insert { m.pool with free := free } { r with check := r.parity })
          let flagged := if bc then filled.raiseFlag .fuel .clamp else filled
          u = (flagged.setCylinder c { e with carryCount := e.carryCount + 1 }).raiseFlag .fuel .carry

/-- The marks take an advance unit by unit, 0 to 7. One mark unit at one advance: no configured cylinder of its mask hit, no change; a hit
appends the MARK entry to its owner's log and raises MARK, whether the entry is stored or lost; a ONCE unit that hits is freed, an EVERY unit
stays. -/
def Obligations.MarkUnitHits : Prop :=
  (∀ (s : State) (old new : Nat) (adv : Advance), s.marksTake old new adv
    = ([0, 1, 2, 3, 4, 5, 6, 7] : List MarkIndex).foldl (fun x i => x.markOne i old new adv) s)
  ∧ ∀ (s : State) (i : MarkIndex) (old new : Nat) (adv : Advance) (u : MarkUnit), s.marks.get i = some u →
    let hit (c : Cylinder) : Prop :=
      c ∈ s.configured ∧ u.mask.getLsbD c.val = true
        ∧ 1 ≤ modCycle (((s.table.get c).tdc : Int) + u.offset - old)
        ∧ modCycle (((s.table.get c).tdc : Int) + u.offset - old) ≤ modCycle ((new : Int) - old)
    ((∀ c, ¬ hit c) → s.markOne i old new adv = s)
    ∧ ∀ c, hit c → (∀ x, hit x → x = c) →
      let marked := (s.append u.owner (.mark i c adv.cycle adv.time)).raiseFlag u.owner .mark
      s.markOne i old new adv = if u.mode = .once then marked.setMarks (s.marks.set i none) else marked

/-! ### The bank drivers -/

/-- START_DECISION: a due head is started as LATE, SLIPPED or FIRED, or suppressed or skipped, in the order of R114's table, and after a
suppression or skip the decisions go on with the rest of the list, and the fault unit takes the faults raised; with no due head it changes
nothing; and after it no head is due at an IDLE bank. -/
def Obligations.StartDecision : Prop :=
  ∀ (t : Time) (b : Bank) (s : State),
    let a := s.arrive t
    let x := a.drivers.get b
    (∃ u, exec (.startDecision t b) s = .next u ∧ u.dueHead b = none)
    ∧ exec (.startDecision t b) s = .next (a.takeDecisions b).takeRaised
    ∧ (a.faults.raised = [] → ((x.state ≠ .idle ∨ x.waiting = []) → exec (.startDecision t b) s = .next a)
    ∧ ∀ e rest r f T, x.state = .idle → x.waiting = e :: rest → a.pool.find e.slot = some r → r.phase = .released f T →
      let slip := (t - T).toNat
      let started (o : StartOutcome) : State :=
        let y := (a.dropWaiting e.slot).setPool (a.pool.update e.slot fun z => { z with phase := .firing f t })
        let y := y.setDrivers { y.drivers with fire := y.drivers.fire ||| (1#8 <<< r.cylinder.val) }
        let pulse : RunningPulse :=
          { slot := e.slot, ends := t + BitVec.ofNat 32 f.duration, cycle := a.clock.cycle, outcome := o, peakSeen := false,
            noRise := false, deadline := some (t + BitVec.ofNat 32 a.engine.config.peakDeadline) }
        y.setBank b { y.drivers.get b with state := .firing pulse }
      (2 ^ 31 ≤ slip → exec (.startDecision t b) s = .next a)
      ∧ (slip < 2 ^ 31 → x.stageFault = true → exec (.startDecision t b) s = .next
        ((a.endOpportunity e.slot (.suppressed .stage) a.clock.cycle none 0 false).takeDecisions b).takeRaised)
      ∧ (slip < 2 ^ 31 → x.stageFault = false → a.engine.config.maxSlip < slip →
        exec (.startDecision t b) s = .next (((a.endOpportunity e.slot .skippedSlip a.clock.cycle none 0 false).handFault
          (.driver b) .slipSkip (some r.cylinder) (some e.slot)).takeDecisions b).takeRaised)
      ∧ (x.stageFault = false → slip ≤ a.engine.config.maxSlip → slip < 2 ^ 31 →
        (e.late = true → exec (.startDecision t b) s = .next
          ((started .late).handFault (.driver b) .lateStart (some r.cylinder) (some e.slot)).takeRaised)
        ∧ (e.late = false → 0 < slip → exec (.startDecision t b) s = .next (started .slipped))
        ∧ (e.late = false → slip = 0 → exec (.startDecision t b) s = .next (started .fired))))

/-- The end of a firing opportunity: a record marked final or of repeat 1 is freed, a greater repeat is counted down, a standing record kept,
each leaving its waiting list and its firing fields; a report goes to the owner's log when the outcome, the shortening or the record calls
for it; neither the totals nor POOL_LOW change. -/
def Obligations.FiringOpportunityEnds : Prop :=
  ∀ (s : State) (k : Slot) (r : Record) (o : Outcome) (cycle : Word16) (start : Option Time) (d : Nat) (noRise : Bool),
    s.pool.find k = some r →
      let u := s.endOpportunity k o cycle start d noRise
      let frees := r.final = true ∨ r.repeats = 1
      let report (repeats : Nat) (freed : Bool) : LogEntry := .firing
        { slot := k, tag := r.tag, cylinder := r.cylinder, kind := r.kind, carried := r.carried, cycle := cycle,
          outcome := o, shortened := r.shortened, noRise := noRise, start := start, duration := d, repeats := repeats,
          freed := freed }
      let called := r.report = true ∨ r.shortened = true ∨ ∀ x, o ≠ .started x
      (frees → u.pool = { s.pool.unlink k with free := k :: s.pool.free })
      ∧ (¬ frees → 1 < r.repeats → u.pool = s.pool.update k fun x =>
        let y : Record := { x with phase := .pending, repeats := x.repeats - 1 }
        { y with check := y.parity })
      ∧ (¬ frees → r.repeats = 0 → u.pool = s.pool.update k fun x => { x with phase := .pending })
      ∧ (∀ b, u.drivers.get b
        = { s.drivers.get b with waiting := (s.drivers.get b).waiting.filter fun e => e.slot != k })
      ∧ u.drivers.fire = s.drivers.fire
      ∧ (¬ called → u.links = s.links)
      ∧ (called → frees → u.links = (s.append r.owner.link (report 0 true)).links)
      ∧ (called → ¬ frees → u.links = (s.append r.owner.link (report (r.repeats - 1) false)).links)
      ∧ u.table = s.table ∧ u.limits = s.limits ∧ u.faults = s.faults ∧ u.clock = s.clock ∧ u.staging = s.staging
      ∧ u.marks = s.marks ∧ u.engine = s.engine ∧ u.timeBase = s.timeBase ∧ u.pending = s.pending

/-- END_OF_PULSE at a pulse end that has been reached: the FIRE line negated, RECOVERY armed, the driven time added to the fired total, the streak
reset when the peak was seen, the carry entry set by a non-carried fuel MAIN, and the firing opportunity ended with the start outcome. Before
that, and with no running pulse, it changes nothing. -/
def Obligations.EndOfPulse : Prop :=
  ∀ (t : Time) (b : Bank) (s : State),
    let a := s.arrive t
    ((∀ p, (a.drivers.get b).state ≠ .firing p) → exec (.endOfPulse t b) s = .next a)
    ∧ ∀ p, (a.drivers.get b).state = .firing p →
      (2 ^ 31 ≤ (t - p.ends).toNat → exec (.endOfPulse t b) s = .next a)
      ∧ ∀ r f actual, (t - p.ends).toNat < 2 ^ 31 → a.pool.find p.slot = some r → r.phase = .firing f actual →
        let e := a.table.get r.cylinder
        let driven := (t - actual).toNat
        let sets := r.owner = .fuel ∧ r.kind = .main ∧ r.carried = false
        let idle := a.setBank b
          { a.drivers.get b with state := .recovery (t + BitVec.ofNat 32 a.engine.config.bankRecovery) }
        let dark := idle.setDrivers { idle.drivers with fire := idle.drivers.fire &&& ~~~(1#8 <<< r.cylinder.val) }
        exec (.endOfPulse t b) s = .next
          ((dark.setCylinder r.cylinder
            { e with
              fired := e.fired + driven
              streak := if p.peakSeen then 0 else e.streak
              carry := if sets then some { offset := r.offset, duration := f.duration } else e.carry
              carryCount := if sets then 0 else e.carryCount }).endOpportunity
            p.slot (.started p.outcome) p.cycle (some actual) driven p.noRise)

/-- PEAK_DEADLINE without a peak: no-rise, NO_RISE, the streak up to 3, and INJECTOR_WATCH when it stands at 3; with the peak seen the deadline
goes and nothing else. RECOVERY_END: IDLE, then the start decisions. Before their times both change nothing. -/
def Obligations.PeakDeadlineAndRecovery : Prop :=
  ∀ (t : Time) (b : Bank) (s : State),
    let a := s.arrive t
    (∀ p d, (a.drivers.get b).state = .firing p → p.deadline = some d →
      (2 ^ 31 ≤ (t - d).toNat → exec (.peakDeadline t b) s = .next a)
      ∧ ((t - d).toNat < 2 ^ 31 → p.peakSeen = true →
        exec (.peakDeadline t b) s
          = .next (a.setBank b { a.drivers.get b with state := .firing { p with deadline := none } }))
      ∧ ∀ r, (t - d).toNat < 2 ^ 31 → p.peakSeen = false → a.pool.find p.slot = some r →
        let e := a.table.get r.cylinder
        let noRise := ((a.setBank b
          { a.drivers.get b with state := .firing { p with deadline := none, noRise := true } }).raiseFault
            .noRise (some r.cylinder) (some p.slot)).setCylinder r.cylinder { e with streak := min 3 (e.streak + 1) }
        (e.streak < 2 → exec (.peakDeadline t b) s = .next noRise)
        ∧ (2 ≤ e.streak → exec (.peakDeadline t b) s
          = .next (noRise.raiseFault .injectorWatch (some r.cylinder) (some p.slot))))
    ∧ ((∀ p d, (a.drivers.get b).state = .firing p → p.deadline ≠ some d) → exec (.peakDeadline t b) s = .next a)
    ∧ (∀ ends, (a.drivers.get b).state = .recovery ends →
      (2 ^ 31 ≤ (t - ends).toNat → exec (.recoveryEnd t b) s = .next a)
      ∧ ((t - ends).toNat < 2 ^ 31 →
        exec (.recoveryEnd t b) s = .next ((a.setBank b { a.drivers.get b with state := .idle }).takeDecisions b).takeRaised
        ∧ ((a.drivers.get b).waiting = [] → a.faults.raised = [] →
          exec (.recoveryEnd t b) s = .next (a.setBank b { a.drivers.get b with state := .idle }))))
    ∧ ((∀ ends, (a.drivers.get b).state ≠ .recovery ends) → exec (.recoveryEnd t b) s = .next a)

/-- A PEAK edge sets peak seen of a running pulse and is ignored otherwise. A STAGE_FAULT line raises STAGE_FAULT when it changes to asserted,
and truncates the bank's running pulse; its negation raises nothing. -/
def Obligations.PowerStageLines : Prop :=
  ∀ (t : Time) (b : Bank) (s : State),
    let a := s.arrive t
    let x := a.drivers.get b
    let raised := a.setBank b { x with stageFault := true }
    ((∀ p, x.state ≠ .firing p) → exec (.peakEdge t b) s = .next a)
    ∧ (∀ p, x.state = .firing p →
      exec (.peakEdge t b) s = .next (a.setBank b { x with state := .firing { p with peakSeen := true } }))
    ∧ exec (.stageFaultNegation t b) s = .next (a.setBank b { x with stageFault := false })
    ∧ (x.stageFault = true → exec (.stageFaultAssertion t b) s = .next a)
    ∧ (x.stageFault = false → (∀ p, x.state ≠ .firing p) →
      exec (.stageFaultAssertion t b) s = .next (raised.raiseFault .stageFault none none))
    ∧ ∀ p r f actual, x.stageFault = false → x.state = .firing p → a.pool.find p.slot = some r →
      r.phase = .firing f actual →
      let y := raised.raiseFault .stageFault (some r.cylinder) (some p.slot)
      let e := a.table.get r.cylinder
      let driven := (t - actual).toNat
      let idle := y.setBank b
        { y.drivers.get b with state := .recovery (t + BitVec.ofNat 32 a.engine.config.bankRecovery) }
      let dark := idle.setDrivers { idle.drivers with fire := idle.drivers.fire &&& ~~~(1#8 <<< r.cylinder.val) }
      exec (.stageFaultAssertion t b) s = .next
        ((dark.setCylinder r.cylinder
          { e with fired := e.fired + driven, streak := if p.peakSeen then 0 else e.streak }).endOpportunity
          p.slot .truncatedStage p.cycle (some actual) driven p.noRise)

/-! ### Faults, logs and the slot pool -/

/-- A fault is raised and taken at once, or handed over by a block of a tooth and taken later, each with the cycle counter and the time of its
raise. A fault taken is latched, offered to the capture record, and when unmasked logged on the supervisor link; a masked fault has no entry and
no reaction. The reaction of OVERSPEED suppresses every RELEASED record with its report, bank A's waiting list from head to tail and then bank
B's; that of INJECTOR_WATCH clears the cylinder's enable; no other kind has one. -/
def Obligations.FaultRaised : Prop :=
  (∀ (s : State) (b : Block) (k : FaultKind) (c : Option Cylinder) (x : Option Slot),
    let r : FaultRecord := { kind := k, cylinder := c, slot := x, cycle := s.clock.cycle, time := s.timeBase }
    s.raiseFault k c x = (s.takeFault r).reactUnmasked k c
    ∧ s.handFault b k c x = s.setFaults { s.faults with raised := s.faults.raised ++ [{ block := b, record := r }] })
  ∧ (∀ s : State, s.faults.raised = [] → s.takeRaised = s)
  ∧ (∀ (s : State) (y : RaisedFault) (rest : List RaisedFault), s.faults.raised = y :: rest →
    s.takeRaised = ((s.setFaults { s.faults with raised := rest }).takeFault y.record).takeRaised)
  ∧ (∀ (s : State) (r : FaultRecord),
    let u := s.takeFault r
    let before := s.links.get .supervisor
    let after := u.links.get .supervisor
    let masked := s.faults.mask.getLsbD (r.kind.code - 1)
    (∀ j : FaultKind, u.faults.pending.getLsbD (j.code - 1)
      = (s.faults.pending.getLsbD (j.code - 1) || decide (j = r.kind)))
    ∧ u.faults.mask = s.faults.mask ∧ u.faults.raised = s.faults.raised
    ∧ (s.faults.capture = none →
      u.faults.capture = some { record := r, follow := 0 } ∧ after.sticky.getLsbD 10 = true)
    ∧ (∀ h, s.faults.capture = some h → h.record.kind.severity < r.kind.severity →
      u.faults.capture = some { record := r, follow := 0 } ∧ after.sticky.getLsbD 10 = true)
    ∧ (∀ h, s.faults.capture = some h → r.kind.severity ≤ h.record.kind.severity →
      u.faults.capture = some { h with follow := min 255 (h.follow + 1) }
        ∧ after.sticky.getLsbD 10 = before.sticky.getLsbD 10)
    ∧ (masked = true → after.log = before.log)
    ∧ (masked = false → before.log.length < 32 → after.log = before.log ++ [.fault r])
    ∧ (masked = false → 32 ≤ before.log.length → after.log = before.log ∧ after.sticky.getLsbD 3 = true)
    ∧ u.links.fuel = s.links.fuel ∧ u.links.thermal = s.links.thermal ∧ u.pool = s.pool ∧ u.drivers = s.drivers
    ∧ u.limits = s.limits ∧ u.table = s.table ∧ u.clock = s.clock ∧ u.marks = s.marks)
  ∧ ∀ (s : State) (k : FaultKind) (c : Option Cylinder),
    let masked := s.faults.mask.getLsbD (k.code - 1)
    let swept := ((s.drivers.bankA.waiting ++ s.drivers.bankB.waiting).map fun e => e.slot).foldl
      (fun x j => x.endOpportunity j (.suppressed .overspeed) x.clock.cycle none 0 false) s
    (masked = true → s.reactUnmasked k c = s)
    ∧ (masked = false → k = .overspeed → s.timelineSound → s.reactUnmasked k c = swept ∧ swept.noneReleased)
    ∧ (∀ y, masked = false → k = .injectorWatch → c = some y →
      s.reactUnmasked k c = s.setLimits { s.limits with enables := s.limits.enables &&& ~~~(1#8 <<< y.val) })
    ∧ (k ≠ .overspeed → k ≠ .injectorWatch → s.reactUnmasked k c = s)

/-- The answer logs: an entry joins the back of a log of fewer than 32 entries; to a full log it is lost, the stored entries are kept and LOG_LOST
is raised. The level flags: LOG while the log holds an entry, STAGED while the staging count is at or above the watermark, FAULT on the
supervisor link while a kind is pending and unmasked. The notice line is asserted while a flag of the link is set and enabled. -/
def Obligations.AnswerLog : Prop :=
  ∀ (s : State) (l : Link) (e : LogEntry),
    ((s.links.get l).log.length < 32 →
      s.append l e = s.setLink l { s.links.get l with log := (s.links.get l).log ++ [e] })
    ∧ (32 ≤ (s.links.get l).log.length →
      s.append l e = s.setLink l { s.links.get l with sticky := (s.links.get l).sticky ||| 0b1000#11 })
    ∧ ((s.levelFlags l).getLsbD 0 = true ↔ (s.links.get l).log ≠ [])
    ∧ ((s.levelFlags l).getLsbD 1 = true ↔
      ∃ o : Owner, l = o.link ∧ (s.staging.get o).watermark ≤ (s.staging.get o).queue.length)
    ∧ ((s.levelFlags l).getLsbD 2 = true ↔
      l = .supervisor ∧ ∃ i, i < 11 ∧ s.faults.pending.getLsbD i = true ∧ s.faults.mask.getLsbD i = false)
    ∧ (∀ i, 3 ≤ i → (s.levelFlags l).getLsbD i = false)
    ∧ (∀ i, (s.flags l).getLsbD i = ((s.links.get l).sticky.getLsbD i || (s.levelFlags l).getLsbD i))
    ∧ (s.noticeLine l = true ↔ ∃ i, i < 11 ∧ (s.flags l).getLsbD i = true ∧ (s.links.get l).enables.getLsbD i = true)

end ModelStatements
end

