-- ==== Sys2Proof/Laws/Operands.lean ====
section
/-! SUPPORT. How items are packed into the nine bytes of response data and log entries (R161, R162, R164): nine bytes in their order, and
numbers of two, four and five bytes. -/

namespace Sys2Proof.Machine

/-- One byte taken into the data behind the bytes already there. -/
theorem data_snoc {w : Nat} (x : BitVec w) (b : Byte) :
    x.setWidth 72 <<< 8 ||| b.setWidth 72 = (x ++ b).setWidth 72 := by
  apply BitVec.eq_of_getLsbD_eq
  intro i hi
  simp only [BitVec.getLsbD_or, BitVec.getLsbD_shiftLeft, BitVec.getLsbD_setWidth, BitVec.getLsbD_append]
  by_cases h8 : i < 8
  · simp [h8, hi]
  · have : i - 8 < 72 := by omega
    simp [h8, hi, this, BitVec.getLsbD_of_ge b i (by omega)]

/-- Nine bytes stand in the data in their order, byte 0 the most significant (R162, R164). -/
theorem dataOf_nine (b0 b1 b2 b3 b4 b5 b6 b7 b8 : Byte) :
    dataOf [b0, b1, b2, b3, b4, b5, b6, b7, b8] = b0 ++ b1 ++ b2 ++ b3 ++ b4 ++ b5 ++ b6 ++ b7 ++ b8 := by
  simp only [dataOf, List.foldl, List.getD_eq_getElem?_getD, List.getElem?_cons_zero, List.getElem?_cons_succ,
    Option.getD_some]
  rw [show (0#72 <<< 8 ||| b0.setWidth 72 : Data) = b0.setWidth 72 by simp]
  rw [data_snoc b0 b1, data_snoc _ b2, data_snoc _ b3, data_snoc _ b4,
    data_snoc _ b5, data_snoc _ b6, data_snoc _ b7, data_snoc _ b8]
  simp

/-- Bytes that are not given read 0 (R162, R164). -/
theorem dataOf_snoc_zero (bs : List Byte) : dataOf (bs ++ [0#8]) = dataOf bs := by
  have h (i : Nat) : (bs ++ [0#8]).getD i 0#8 = bs.getD i 0#8 := by
    rw [List.getD_eq_getElem?_getD, List.getD_eq_getElem?_getD]
    by_cases hi : i < bs.length
    · rw [List.getElem?_append_left hi]
    · rw [List.getElem?_append_right (by omega), List.getElem?_eq_none (l := bs) (by omega)]
      cases i - bs.length <;> simp
  simp only [dataOf, List.foldl, h]

/-- No byte at all reads 0 (R162). -/
theorem dataOf_nil : dataOf [] = 0 := by decide +kernel

/-- The two bytes of a number are its sixteen low bits, most significant byte first (R161). -/
theorem bytes2_append (n : Nat) : byte (n / 256) ++ byte n = BitVec.ofNat 16 n := by
  apply BitVec.eq_of_toNat_eq
  simp only [byte, BitVec.toNat_append, BitVec.toNat_ofNat]
  rw [← Nat.shiftLeft_add_eq_or_of_lt (by omega : n % 2 ^ 8 < 2 ^ 8), Nat.shiftLeft_eq]
  omega

end Sys2Proof.Machine
end

