-- ==== Sys2Proof/Laws/State.lean ====
section
/-! SUPPORT. One lemma per field per named update of the state, and the reading of a container after a write. -/

namespace Sys2Proof.Machine

/-! ### Containers -/

@[simp] theorem PerLink.get_set {α : Type} (v : PerLink α) (l m : Link) (a : α) :
    (v.set l a).get m = if m = l then a else v.get m := by
  cases l <;> cases m <;> rfl

@[simp] theorem PerLink.set_set {α : Type} (v : PerLink α) (l : Link) (a b : α) : (v.set l a).set l b = v.set l b := by
  cases l <;> rfl

@[simp] theorem PerLink.set_get {α : Type} (v : PerLink α) (l : Link) : v.set l (v.get l) = v := by
  cases l <;> rfl

/-- A statement for every index of eight holds when it holds for each. -/
theorem Eight.forall_index {P : Fin 8 → Prop} (h0 : P 0) (h1 : P 1) (h2 : P 2) (h3 : P 3) (h4 : P 4) (h5 : P 5) (h6 : P 6)
    (h7 : P 7) (i : Fin 8) : P i := by
  fin_cases i <;> assumption

@[simp] theorem Eight.get_set {α : Type} (v : Eight α) (i j : Fin 8) (a : α) :
    (v.set i a).get j = if j = i then a else v.get j := by
  fin_cases i <;> fin_cases j <;> rfl

@[simp] theorem Eight.get_map {α β : Type} (v : Eight α) (f : Fin 8 → α → β) (i : Fin 8) :
    (v.map f).get i = f i (v.get i) := by
  fin_cases i <;> rfl

@[simp] theorem Eight.get_all {α : Type} (a : α) (i : Fin 8) : (Eight.all a).get i = a := by
  fin_cases i <;> rfl

/-- Eight values are equal when they are equal at every index. -/
theorem Eight.ext_get {α : Type} {v w : Eight α} (h : ∀ i, v.get i = w.get i) : v = w := by
  cases v; cases w
  simpa [Eight.get] using ⟨h 0, h 1, h 2, h 3, h 4, h 5, h 6, h 7⟩

/-- A value stands in the list of eight exactly when some index holds it. -/
theorem Eight.mem_toList {α : Type} (v : Eight α) (a : α) : a ∈ v.toList ↔ ∃ i, v.get i = a := by
  constructor
  · intro h
    simp only [Eight.toList, List.mem_cons, List.not_mem_nil, or_false] at h
    obtain h | h | h | h | h | h | h | h := h
    exacts [⟨0, h.symm⟩, ⟨1, h.symm⟩, ⟨2, h.symm⟩, ⟨3, h.symm⟩, ⟨4, h.symm⟩, ⟨5, h.symm⟩, ⟨6, h.symm⟩, ⟨7, h.symm⟩]
  · rintro ⟨i, rfl⟩
    fin_cases i <;> simp [Eight.toList, Eight.get]

@[simp] theorem Drivers.get_set (d : Drivers) (b b' : Bank) (x : BankDriver) :
    (d.set b x).get b' = if b' = b then x else d.get b' := by
  cases b <;> cases b' <;> rfl

@[simp] theorem Drivers.set_fire (d : Drivers) (b : Bank) (x : BankDriver) : (d.set b x).fire = d.fire := by
  cases b <;> rfl

@[simp] theorem Staging.get_set (g : Staging) (o o' : Owner) (p : RequestPort) :
    (g.set o p).get o' = if o' = o then p else g.get o' := by
  cases o <;> cases o' <;> rfl

@[simp] theorem Staging.set_fuelRun (g : Staging) (o : Owner) (p : RequestPort) : (g.set o p).fuelRun = g.fuelRun := by
  cases o <;> rfl

namespace State

/-! ### `setTimeBase` -/

@[simp] theorem setTimeBase_timeBase (s : State) (x : Time) : (s.setTimeBase x).timeBase = x := rfl
@[simp] theorem setTimeBase_clock (s : State) (x : Time) : (s.setTimeBase x).clock = s.clock := rfl
@[simp] theorem setTimeBase_marks (s : State) (x : Time) : (s.setTimeBase x).marks = s.marks := rfl
@[simp] theorem setTimeBase_pool (s : State) (x : Time) : (s.setTimeBase x).pool = s.pool := rfl
@[simp] theorem setTimeBase_table (s : State) (x : Time) : (s.setTimeBase x).table = s.table := rfl
@[simp] theorem setTimeBase_staging (s : State) (x : Time) : (s.setTimeBase x).staging = s.staging := rfl
@[simp] theorem setTimeBase_limits (s : State) (x : Time) : (s.setTimeBase x).limits = s.limits := rfl
@[simp] theorem setTimeBase_drivers (s : State) (x : Time) : (s.setTimeBase x).drivers = s.drivers := rfl
@[simp] theorem setTimeBase_faults (s : State) (x : Time) : (s.setTimeBase x).faults = s.faults := rfl
@[simp] theorem setTimeBase_links (s : State) (x : Time) : (s.setTimeBase x).links = s.links := rfl
@[simp] theorem setTimeBase_engine (s : State) (x : Time) : (s.setTimeBase x).engine = s.engine := rfl
@[simp] theorem setTimeBase_pending (s : State) (x : Time) : (s.setTimeBase x).pending = s.pending := rfl
@[simp] theorem setTimeBase_self (s : State) : s.setTimeBase s.timeBase = s := rfl
@[simp] theorem setTimeBase_twice (s : State) (x y : Time) : (s.setTimeBase x).setTimeBase y = s.setTimeBase y := rfl

/-! ### `setClock` -/

@[simp] theorem setClock_timeBase (s : State) (x : Clock) : (s.setClock x).timeBase = s.timeBase := rfl
@[simp] theorem setClock_clock (s : State) (x : Clock) : (s.setClock x).clock = x := rfl
@[simp] theorem setClock_marks (s : State) (x : Clock) : (s.setClock x).marks = s.marks := rfl
@[simp] theorem setClock_pool (s : State) (x : Clock) : (s.setClock x).pool = s.pool := rfl
@[simp] theorem setClock_table (s : State) (x : Clock) : (s.setClock x).table = s.table := rfl
@[simp] theorem setClock_staging (s : State) (x : Clock) : (s.setClock x).staging = s.staging := rfl
@[simp] theorem setClock_limits (s : State) (x : Clock) : (s.setClock x).limits = s.limits := rfl
@[simp] theorem setClock_drivers (s : State) (x : Clock) : (s.setClock x).drivers = s.drivers := rfl
@[simp] theorem setClock_faults (s : State) (x : Clock) : (s.setClock x).faults = s.faults := rfl
@[simp] theorem setClock_links (s : State) (x : Clock) : (s.setClock x).links = s.links := rfl
@[simp] theorem setClock_engine (s : State) (x : Clock) : (s.setClock x).engine = s.engine := rfl
@[simp] theorem setClock_pending (s : State) (x : Clock) : (s.setClock x).pending = s.pending := rfl
@[simp] theorem setClock_self (s : State) : s.setClock s.clock = s := rfl
@[simp] theorem setClock_twice (s : State) (x y : Clock) : (s.setClock x).setClock y = s.setClock y := rfl

/-! ### `setMarks` -/

@[simp] theorem setMarks_timeBase (s : State) (x : Eight (Option MarkUnit)) : (s.setMarks x).timeBase = s.timeBase := rfl
@[simp] theorem setMarks_clock (s : State) (x : Eight (Option MarkUnit)) : (s.setMarks x).clock = s.clock := rfl
@[simp] theorem setMarks_marks (s : State) (x : Eight (Option MarkUnit)) : (s.setMarks x).marks = x := rfl
@[simp] theorem setMarks_pool (s : State) (x : Eight (Option MarkUnit)) : (s.setMarks x).pool = s.pool := rfl
@[simp] theorem setMarks_table (s : State) (x : Eight (Option MarkUnit)) : (s.setMarks x).table = s.table := rfl
@[simp] theorem setMarks_staging (s : State) (x : Eight (Option MarkUnit)) : (s.setMarks x).staging = s.staging := rfl
@[simp] theorem setMarks_limits (s : State) (x : Eight (Option MarkUnit)) : (s.setMarks x).limits = s.limits := rfl
@[simp] theorem setMarks_drivers (s : State) (x : Eight (Option MarkUnit)) : (s.setMarks x).drivers = s.drivers := rfl
@[simp] theorem setMarks_faults (s : State) (x : Eight (Option MarkUnit)) : (s.setMarks x).faults = s.faults := rfl
@[simp] theorem setMarks_links (s : State) (x : Eight (Option MarkUnit)) : (s.setMarks x).links = s.links := rfl
@[simp] theorem setMarks_engine (s : State) (x : Eight (Option MarkUnit)) : (s.setMarks x).engine = s.engine := rfl
@[simp] theorem setMarks_pending (s : State) (x : Eight (Option MarkUnit)) : (s.setMarks x).pending = s.pending := rfl
@[simp] theorem setMarks_self (s : State) : s.setMarks s.marks = s := rfl
@[simp] theorem setMarks_twice (s : State) (x y : Eight (Option MarkUnit)) : (s.setMarks x).setMarks y = s.setMarks y := rfl

/-! ### `setPool` -/

@[simp] theorem setPool_timeBase (s : State) (x : Pool) : (s.setPool x).timeBase = s.timeBase := rfl
@[simp] theorem setPool_clock (s : State) (x : Pool) : (s.setPool x).clock = s.clock := rfl
@[simp] theorem setPool_marks (s : State) (x : Pool) : (s.setPool x).marks = s.marks := rfl
@[simp] theorem setPool_pool (s : State) (x : Pool) : (s.setPool x).pool = x := rfl
@[simp] theorem setPool_table (s : State) (x : Pool) : (s.setPool x).table = s.table := rfl
@[simp] theorem setPool_staging (s : State) (x : Pool) : (s.setPool x).staging = s.staging := rfl
@[simp] theorem setPool_limits (s : State) (x : Pool) : (s.setPool x).limits = s.limits := rfl
@[simp] theorem setPool_drivers (s : State) (x : Pool) : (s.setPool x).drivers = s.drivers := rfl
@[simp] theorem setPool_faults (s : State) (x : Pool) : (s.setPool x).faults = s.faults := rfl
@[simp] theorem setPool_links (s : State) (x : Pool) : (s.setPool x).links = s.links := rfl
@[simp] theorem setPool_engine (s : State) (x : Pool) : (s.setPool x).engine = s.engine := rfl
@[simp] theorem setPool_pending (s : State) (x : Pool) : (s.setPool x).pending = s.pending := rfl
@[simp] theorem setPool_self (s : State) : s.setPool s.pool = s := rfl
@[simp] theorem setPool_twice (s : State) (x y : Pool) : (s.setPool x).setPool y = s.setPool y := rfl

/-! ### `setTable` -/

@[simp] theorem setTable_timeBase (s : State) (x : Eight CylinderStatus) : (s.setTable x).timeBase = s.timeBase := rfl
@[simp] theorem setTable_clock (s : State) (x : Eight CylinderStatus) : (s.setTable x).clock = s.clock := rfl
@[simp] theorem setTable_marks (s : State) (x : Eight CylinderStatus) : (s.setTable x).marks = s.marks := rfl
@[simp] theorem setTable_pool (s : State) (x : Eight CylinderStatus) : (s.setTable x).pool = s.pool := rfl
@[simp] theorem setTable_table (s : State) (x : Eight CylinderStatus) : (s.setTable x).table = x := rfl
@[simp] theorem setTable_staging (s : State) (x : Eight CylinderStatus) : (s.setTable x).staging = s.staging := rfl
@[simp] theorem setTable_limits (s : State) (x : Eight CylinderStatus) : (s.setTable x).limits = s.limits := rfl
@[simp] theorem setTable_drivers (s : State) (x : Eight CylinderStatus) : (s.setTable x).drivers = s.drivers := rfl
@[simp] theorem setTable_faults (s : State) (x : Eight CylinderStatus) : (s.setTable x).faults = s.faults := rfl
@[simp] theorem setTable_links (s : State) (x : Eight CylinderStatus) : (s.setTable x).links = s.links := rfl
@[simp] theorem setTable_engine (s : State) (x : Eight CylinderStatus) : (s.setTable x).engine = s.engine := rfl
@[simp] theorem setTable_pending (s : State) (x : Eight CylinderStatus) : (s.setTable x).pending = s.pending := rfl
@[simp] theorem setTable_self (s : State) : s.setTable s.table = s := rfl
@[simp] theorem setTable_twice (s : State) (x y : Eight CylinderStatus) : (s.setTable x).setTable y = s.setTable y := rfl

/-! ### `setStaging` -/

@[simp] theorem setStaging_timeBase (s : State) (x : Staging) : (s.setStaging x).timeBase = s.timeBase := rfl
@[simp] theorem setStaging_clock (s : State) (x : Staging) : (s.setStaging x).clock = s.clock := rfl
@[simp] theorem setStaging_marks (s : State) (x : Staging) : (s.setStaging x).marks = s.marks := rfl
@[simp] theorem setStaging_pool (s : State) (x : Staging) : (s.setStaging x).pool = s.pool := rfl
@[simp] theorem setStaging_table (s : State) (x : Staging) : (s.setStaging x).table = s.table := rfl
@[simp] theorem setStaging_staging (s : State) (x : Staging) : (s.setStaging x).staging = x := rfl
@[simp] theorem setStaging_limits (s : State) (x : Staging) : (s.setStaging x).limits = s.limits := rfl
@[simp] theorem setStaging_drivers (s : State) (x : Staging) : (s.setStaging x).drivers = s.drivers := rfl
@[simp] theorem setStaging_faults (s : State) (x : Staging) : (s.setStaging x).faults = s.faults := rfl
@[simp] theorem setStaging_links (s : State) (x : Staging) : (s.setStaging x).links = s.links := rfl
@[simp] theorem setStaging_engine (s : State) (x : Staging) : (s.setStaging x).engine = s.engine := rfl
@[simp] theorem setStaging_pending (s : State) (x : Staging) : (s.setStaging x).pending = s.pending := rfl
@[simp] theorem setStaging_self (s : State) : s.setStaging s.staging = s := rfl
@[simp] theorem setStaging_twice (s : State) (x y : Staging) : (s.setStaging x).setStaging y = s.setStaging y := rfl

/-! ### `setLimits` -/

@[simp] theorem setLimits_timeBase (s : State) (x : Limits) : (s.setLimits x).timeBase = s.timeBase := rfl
@[simp] theorem setLimits_clock (s : State) (x : Limits) : (s.setLimits x).clock = s.clock := rfl
@[simp] theorem setLimits_marks (s : State) (x : Limits) : (s.setLimits x).marks = s.marks := rfl
@[simp] theorem setLimits_pool (s : State) (x : Limits) : (s.setLimits x).pool = s.pool := rfl
@[simp] theorem setLimits_table (s : State) (x : Limits) : (s.setLimits x).table = s.table := rfl
@[simp] theorem setLimits_staging (s : State) (x : Limits) : (s.setLimits x).staging = s.staging := rfl
@[simp] theorem setLimits_limits (s : State) (x : Limits) : (s.setLimits x).limits = x := rfl
@[simp] theorem setLimits_drivers (s : State) (x : Limits) : (s.setLimits x).drivers = s.drivers := rfl
@[simp] theorem setLimits_faults (s : State) (x : Limits) : (s.setLimits x).faults = s.faults := rfl
@[simp] theorem setLimits_links (s : State) (x : Limits) : (s.setLimits x).links = s.links := rfl
@[simp] theorem setLimits_engine (s : State) (x : Limits) : (s.setLimits x).engine = s.engine := rfl
@[simp] theorem setLimits_pending (s : State) (x : Limits) : (s.setLimits x).pending = s.pending := rfl
@[simp] theorem setLimits_self (s : State) : s.setLimits s.limits = s := rfl
@[simp] theorem setLimits_twice (s : State) (x y : Limits) : (s.setLimits x).setLimits y = s.setLimits y := rfl

/-! ### `setDrivers` -/

@[simp] theorem setDrivers_timeBase (s : State) (x : Drivers) : (s.setDrivers x).timeBase = s.timeBase := rfl
@[simp] theorem setDrivers_clock (s : State) (x : Drivers) : (s.setDrivers x).clock = s.clock := rfl
@[simp] theorem setDrivers_marks (s : State) (x : Drivers) : (s.setDrivers x).marks = s.marks := rfl
@[simp] theorem setDrivers_pool (s : State) (x : Drivers) : (s.setDrivers x).pool = s.pool := rfl
@[simp] theorem setDrivers_table (s : State) (x : Drivers) : (s.setDrivers x).table = s.table := rfl
@[simp] theorem setDrivers_staging (s : State) (x : Drivers) : (s.setDrivers x).staging = s.staging := rfl
@[simp] theorem setDrivers_limits (s : State) (x : Drivers) : (s.setDrivers x).limits = s.limits := rfl
@[simp] theorem setDrivers_drivers (s : State) (x : Drivers) : (s.setDrivers x).drivers = x := rfl
@[simp] theorem setDrivers_faults (s : State) (x : Drivers) : (s.setDrivers x).faults = s.faults := rfl
@[simp] theorem setDrivers_links (s : State) (x : Drivers) : (s.setDrivers x).links = s.links := rfl
@[simp] theorem setDrivers_engine (s : State) (x : Drivers) : (s.setDrivers x).engine = s.engine := rfl
@[simp] theorem setDrivers_pending (s : State) (x : Drivers) : (s.setDrivers x).pending = s.pending := rfl
@[simp] theorem setDrivers_self (s : State) : s.setDrivers s.drivers = s := rfl
@[simp] theorem setDrivers_twice (s : State) (x y : Drivers) : (s.setDrivers x).setDrivers y = s.setDrivers y := rfl

/-! ### `setFaults` -/

@[simp] theorem setFaults_timeBase (s : State) (x : FaultUnit) : (s.setFaults x).timeBase = s.timeBase := rfl
@[simp] theorem setFaults_clock (s : State) (x : FaultUnit) : (s.setFaults x).clock = s.clock := rfl
@[simp] theorem setFaults_marks (s : State) (x : FaultUnit) : (s.setFaults x).marks = s.marks := rfl
@[simp] theorem setFaults_pool (s : State) (x : FaultUnit) : (s.setFaults x).pool = s.pool := rfl
@[simp] theorem setFaults_table (s : State) (x : FaultUnit) : (s.setFaults x).table = s.table := rfl
@[simp] theorem setFaults_staging (s : State) (x : FaultUnit) : (s.setFaults x).staging = s.staging := rfl
@[simp] theorem setFaults_limits (s : State) (x : FaultUnit) : (s.setFaults x).limits = s.limits := rfl
@[simp] theorem setFaults_drivers (s : State) (x : FaultUnit) : (s.setFaults x).drivers = s.drivers := rfl
@[simp] theorem setFaults_faults (s : State) (x : FaultUnit) : (s.setFaults x).faults = x := rfl
@[simp] theorem setFaults_links (s : State) (x : FaultUnit) : (s.setFaults x).links = s.links := rfl
@[simp] theorem setFaults_engine (s : State) (x : FaultUnit) : (s.setFaults x).engine = s.engine := rfl
@[simp] theorem setFaults_pending (s : State) (x : FaultUnit) : (s.setFaults x).pending = s.pending := rfl
@[simp] theorem setFaults_self (s : State) : s.setFaults s.faults = s := rfl
@[simp] theorem setFaults_twice (s : State) (x y : FaultUnit) : (s.setFaults x).setFaults y = s.setFaults y := rfl

/-! ### `setLinks` -/

@[simp] theorem setLinks_timeBase (s : State) (x : PerLink LinkPort) : (s.setLinks x).timeBase = s.timeBase := rfl
@[simp] theorem setLinks_clock (s : State) (x : PerLink LinkPort) : (s.setLinks x).clock = s.clock := rfl
@[simp] theorem setLinks_marks (s : State) (x : PerLink LinkPort) : (s.setLinks x).marks = s.marks := rfl
@[simp] theorem setLinks_pool (s : State) (x : PerLink LinkPort) : (s.setLinks x).pool = s.pool := rfl
@[simp] theorem setLinks_table (s : State) (x : PerLink LinkPort) : (s.setLinks x).table = s.table := rfl
@[simp] theorem setLinks_staging (s : State) (x : PerLink LinkPort) : (s.setLinks x).staging = s.staging := rfl
@[simp] theorem setLinks_limits (s : State) (x : PerLink LinkPort) : (s.setLinks x).limits = s.limits := rfl
@[simp] theorem setLinks_drivers (s : State) (x : PerLink LinkPort) : (s.setLinks x).drivers = s.drivers := rfl
@[simp] theorem setLinks_faults (s : State) (x : PerLink LinkPort) : (s.setLinks x).faults = s.faults := rfl
@[simp] theorem setLinks_links (s : State) (x : PerLink LinkPort) : (s.setLinks x).links = x := rfl
@[simp] theorem setLinks_engine (s : State) (x : PerLink LinkPort) : (s.setLinks x).engine = s.engine := rfl
@[simp] theorem setLinks_pending (s : State) (x : PerLink LinkPort) : (s.setLinks x).pending = s.pending := rfl
@[simp] theorem setLinks_self (s : State) : s.setLinks s.links = s := rfl
@[simp] theorem setLinks_twice (s : State) (x y : PerLink LinkPort) : (s.setLinks x).setLinks y = s.setLinks y := rfl

/-! ### `setEngine` -/

@[simp] theorem setEngine_timeBase (s : State) (x : Engine) : (s.setEngine x).timeBase = s.timeBase := rfl
@[simp] theorem setEngine_clock (s : State) (x : Engine) : (s.setEngine x).clock = s.clock := rfl
@[simp] theorem setEngine_marks (s : State) (x : Engine) : (s.setEngine x).marks = s.marks := rfl
@[simp] theorem setEngine_pool (s : State) (x : Engine) : (s.setEngine x).pool = s.pool := rfl
@[simp] theorem setEngine_table (s : State) (x : Engine) : (s.setEngine x).table = s.table := rfl
@[simp] theorem setEngine_staging (s : State) (x : Engine) : (s.setEngine x).staging = s.staging := rfl
@[simp] theorem setEngine_limits (s : State) (x : Engine) : (s.setEngine x).limits = s.limits := rfl
@[simp] theorem setEngine_drivers (s : State) (x : Engine) : (s.setEngine x).drivers = s.drivers := rfl
@[simp] theorem setEngine_faults (s : State) (x : Engine) : (s.setEngine x).faults = s.faults := rfl
@[simp] theorem setEngine_links (s : State) (x : Engine) : (s.setEngine x).links = s.links := rfl
@[simp] theorem setEngine_engine (s : State) (x : Engine) : (s.setEngine x).engine = x := rfl
@[simp] theorem setEngine_pending (s : State) (x : Engine) : (s.setEngine x).pending = s.pending := rfl
@[simp] theorem setEngine_self (s : State) : s.setEngine s.engine = s := rfl
@[simp] theorem setEngine_twice (s : State) (x y : Engine) : (s.setEngine x).setEngine y = s.setEngine y := rfl

/-! ### `setPending` -/

@[simp] theorem setPending_timeBase (s : State) (x : List Instr) : (s.setPending x).timeBase = s.timeBase := rfl
@[simp] theorem setPending_clock (s : State) (x : List Instr) : (s.setPending x).clock = s.clock := rfl
@[simp] theorem setPending_marks (s : State) (x : List Instr) : (s.setPending x).marks = s.marks := rfl
@[simp] theorem setPending_pool (s : State) (x : List Instr) : (s.setPending x).pool = s.pool := rfl
@[simp] theorem setPending_table (s : State) (x : List Instr) : (s.setPending x).table = s.table := rfl
@[simp] theorem setPending_staging (s : State) (x : List Instr) : (s.setPending x).staging = s.staging := rfl
@[simp] theorem setPending_limits (s : State) (x : List Instr) : (s.setPending x).limits = s.limits := rfl
@[simp] theorem setPending_drivers (s : State) (x : List Instr) : (s.setPending x).drivers = s.drivers := rfl
@[simp] theorem setPending_faults (s : State) (x : List Instr) : (s.setPending x).faults = s.faults := rfl
@[simp] theorem setPending_links (s : State) (x : List Instr) : (s.setPending x).links = s.links := rfl
@[simp] theorem setPending_engine (s : State) (x : List Instr) : (s.setPending x).engine = s.engine := rfl
@[simp] theorem setPending_pending (s : State) (x : List Instr) : (s.setPending x).pending = x := rfl
@[simp] theorem setPending_self (s : State) : s.setPending s.pending = s := rfl
@[simp] theorem setPending_twice (s : State) (x y : List Instr) : (s.setPending x).setPending y = s.setPending y := rfl

/-! ### `setLink` -/

@[simp] theorem setLink_timeBase (s : State) (l : Link) (x : LinkPort) : (s.setLink l x).timeBase = s.timeBase := rfl
@[simp] theorem setLink_clock (s : State) (l : Link) (x : LinkPort) : (s.setLink l x).clock = s.clock := rfl
@[simp] theorem setLink_marks (s : State) (l : Link) (x : LinkPort) : (s.setLink l x).marks = s.marks := rfl
@[simp] theorem setLink_pool (s : State) (l : Link) (x : LinkPort) : (s.setLink l x).pool = s.pool := rfl
@[simp] theorem setLink_table (s : State) (l : Link) (x : LinkPort) : (s.setLink l x).table = s.table := rfl
@[simp] theorem setLink_staging (s : State) (l : Link) (x : LinkPort) : (s.setLink l x).staging = s.staging := rfl
@[simp] theorem setLink_limits (s : State) (l : Link) (x : LinkPort) : (s.setLink l x).limits = s.limits := rfl
@[simp] theorem setLink_drivers (s : State) (l : Link) (x : LinkPort) : (s.setLink l x).drivers = s.drivers := rfl
@[simp] theorem setLink_faults (s : State) (l : Link) (x : LinkPort) : (s.setLink l x).faults = s.faults := rfl
@[simp] theorem setLink_links (s : State) (l : Link) (x : LinkPort) : (s.setLink l x).links = s.links.set l x := rfl
@[simp] theorem setLink_engine (s : State) (l : Link) (x : LinkPort) : (s.setLink l x).engine = s.engine := rfl
@[simp] theorem setLink_pending (s : State) (l : Link) (x : LinkPort) : (s.setLink l x).pending = s.pending := rfl

/-! ### `setCylinder` -/

@[simp] theorem setCylinder_timeBase (s : State) (c : Cylinder) (x : CylinderStatus) : (s.setCylinder c x).timeBase = s.timeBase := rfl
@[simp] theorem setCylinder_clock (s : State) (c : Cylinder) (x : CylinderStatus) : (s.setCylinder c x).clock = s.clock := rfl
@[simp] theorem setCylinder_marks (s : State) (c : Cylinder) (x : CylinderStatus) : (s.setCylinder c x).marks = s.marks := rfl
@[simp] theorem setCylinder_pool (s : State) (c : Cylinder) (x : CylinderStatus) : (s.setCylinder c x).pool = s.pool := rfl
@[simp] theorem setCylinder_table (s : State) (c : Cylinder) (x : CylinderStatus) : (s.setCylinder c x).table = s.table.set c x := rfl
@[simp] theorem setCylinder_staging (s : State) (c : Cylinder) (x : CylinderStatus) : (s.setCylinder c x).staging = s.staging := rfl
@[simp] theorem setCylinder_limits (s : State) (c : Cylinder) (x : CylinderStatus) : (s.setCylinder c x).limits = s.limits := rfl
@[simp] theorem setCylinder_drivers (s : State) (c : Cylinder) (x : CylinderStatus) : (s.setCylinder c x).drivers = s.drivers := rfl
@[simp] theorem setCylinder_faults (s : State) (c : Cylinder) (x : CylinderStatus) : (s.setCylinder c x).faults = s.faults := rfl
@[simp] theorem setCylinder_links (s : State) (c : Cylinder) (x : CylinderStatus) : (s.setCylinder c x).links = s.links := rfl
@[simp] theorem setCylinder_engine (s : State) (c : Cylinder) (x : CylinderStatus) : (s.setCylinder c x).engine = s.engine := rfl
@[simp] theorem setCylinder_pending (s : State) (c : Cylinder) (x : CylinderStatus) : (s.setCylinder c x).pending = s.pending := rfl

/-! ### `setBank` -/

@[simp] theorem setBank_timeBase (s : State) (b : Bank) (x : BankDriver) : (s.setBank b x).timeBase = s.timeBase := rfl
@[simp] theorem setBank_clock (s : State) (b : Bank) (x : BankDriver) : (s.setBank b x).clock = s.clock := rfl
@[simp] theorem setBank_marks (s : State) (b : Bank) (x : BankDriver) : (s.setBank b x).marks = s.marks := rfl
@[simp] theorem setBank_pool (s : State) (b : Bank) (x : BankDriver) : (s.setBank b x).pool = s.pool := rfl
@[simp] theorem setBank_table (s : State) (b : Bank) (x : BankDriver) : (s.setBank b x).table = s.table := rfl
@[simp] theorem setBank_staging (s : State) (b : Bank) (x : BankDriver) : (s.setBank b x).staging = s.staging := rfl
@[simp] theorem setBank_limits (s : State) (b : Bank) (x : BankDriver) : (s.setBank b x).limits = s.limits := rfl
@[simp] theorem setBank_drivers (s : State) (b : Bank) (x : BankDriver) : (s.setBank b x).drivers = s.drivers.set b x := rfl
@[simp] theorem setBank_faults (s : State) (b : Bank) (x : BankDriver) : (s.setBank b x).faults = s.faults := rfl
@[simp] theorem setBank_links (s : State) (b : Bank) (x : BankDriver) : (s.setBank b x).links = s.links := rfl
@[simp] theorem setBank_engine (s : State) (b : Bank) (x : BankDriver) : (s.setBank b x).engine = s.engine := rfl
@[simp] theorem setBank_pending (s : State) (b : Bank) (x : BankDriver) : (s.setBank b x).pending = s.pending := rfl

/-! ### `setPort` -/

@[simp] theorem setPort_timeBase (s : State) (o : Owner) (x : RequestPort) : (s.setPort o x).timeBase = s.timeBase := rfl
@[simp] theorem setPort_clock (s : State) (o : Owner) (x : RequestPort) : (s.setPort o x).clock = s.clock := rfl
@[simp] theorem setPort_marks (s : State) (o : Owner) (x : RequestPort) : (s.setPort o x).marks = s.marks := rfl
@[simp] theorem setPort_pool (s : State) (o : Owner) (x : RequestPort) : (s.setPort o x).pool = s.pool := rfl
@[simp] theorem setPort_table (s : State) (o : Owner) (x : RequestPort) : (s.setPort o x).table = s.table := rfl
@[simp] theorem setPort_staging (s : State) (o : Owner) (x : RequestPort) : (s.setPort o x).staging = s.staging.set o x := rfl
@[simp] theorem setPort_limits (s : State) (o : Owner) (x : RequestPort) : (s.setPort o x).limits = s.limits := rfl
@[simp] theorem setPort_drivers (s : State) (o : Owner) (x : RequestPort) : (s.setPort o x).drivers = s.drivers := rfl
@[simp] theorem setPort_faults (s : State) (o : Owner) (x : RequestPort) : (s.setPort o x).faults = s.faults := rfl
@[simp] theorem setPort_links (s : State) (o : Owner) (x : RequestPort) : (s.setPort o x).links = s.links := rfl
@[simp] theorem setPort_engine (s : State) (o : Owner) (x : RequestPort) : (s.setPort o x).engine = s.engine := rfl
@[simp] theorem setPort_pending (s : State) (o : Owner) (x : RequestPort) : (s.setPort o x).pending = s.pending := rfl

end State

end Sys2Proof.Machine
end

