-- ==== Sys2Proof/Laws/Ops.lean ====
section
/-! SUPPORT. What the shared operations change and what they leave: one lemma per untouched field for each of them, and one lemma that
says the effect of each. -/

namespace Sys2Proof.Machine

/-- A fold of an operation that keeps a value keeps it. -/
theorem foldl_keeps {α β γ : Type} (f : γ → α → γ) (p : γ → β) (h : ∀ s a, p (f s a) = p s) (l : List α) (s : γ) :
    p (l.foldl f s) = p s := by
  induction l generalizing s with
  | nil => rfl
  | cons a l ih => rw [List.foldl_cons, ih, h]

/-- A fold of an operation that keeps a property keeps it. -/
theorem foldl_preserves {α γ : Type} (f : γ → α → γ) (P : γ → Prop) (h : ∀ s a, P s → P (f s a)) (l : List α) (s : γ)
    (hs : P s) : P (l.foldl f s) := by
  induction l generalizing s with
  | nil => exact hs
  | cons a l ih => exact ih _ (h _ _ hs)

namespace State

/-! ### Links -/

@[simp] theorem raiseFlag_timeBase (s : State) (l : Link) (f : Flag) : (s.raiseFlag l f).timeBase = s.timeBase := rfl
@[simp] theorem raiseFlag_clock (s : State) (l : Link) (f : Flag) : (s.raiseFlag l f).clock = s.clock := rfl
@[simp] theorem raiseFlag_marks (s : State) (l : Link) (f : Flag) : (s.raiseFlag l f).marks = s.marks := rfl
@[simp] theorem raiseFlag_pool (s : State) (l : Link) (f : Flag) : (s.raiseFlag l f).pool = s.pool := rfl
@[simp] theorem raiseFlag_table (s : State) (l : Link) (f : Flag) : (s.raiseFlag l f).table = s.table := rfl
@[simp] theorem raiseFlag_staging (s : State) (l : Link) (f : Flag) : (s.raiseFlag l f).staging = s.staging := rfl
@[simp] theorem raiseFlag_limits (s : State) (l : Link) (f : Flag) : (s.raiseFlag l f).limits = s.limits := rfl
@[simp] theorem raiseFlag_drivers (s : State) (l : Link) (f : Flag) : (s.raiseFlag l f).drivers = s.drivers := rfl
@[simp] theorem raiseFlag_faults (s : State) (l : Link) (f : Flag) : (s.raiseFlag l f).faults = s.faults := rfl
@[simp] theorem raiseFlag_engine (s : State) (l : Link) (f : Flag) : (s.raiseFlag l f).engine = s.engine := rfl
@[simp] theorem raiseFlag_pending (s : State) (l : Link) (f : Flag) : (s.raiseFlag l f).pending = s.pending := rfl

@[simp] theorem raiseSync_timeBase (s : State)  : (s.raiseSync).timeBase = s.timeBase := rfl
@[simp] theorem raiseSync_clock (s : State)  : (s.raiseSync).clock = s.clock := rfl
@[simp] theorem raiseSync_marks (s : State)  : (s.raiseSync).marks = s.marks := rfl
@[simp] theorem raiseSync_pool (s : State)  : (s.raiseSync).pool = s.pool := rfl
@[simp] theorem raiseSync_table (s : State)  : (s.raiseSync).table = s.table := rfl
@[simp] theorem raiseSync_staging (s : State)  : (s.raiseSync).staging = s.staging := rfl
@[simp] theorem raiseSync_limits (s : State)  : (s.raiseSync).limits = s.limits := rfl
@[simp] theorem raiseSync_drivers (s : State)  : (s.raiseSync).drivers = s.drivers := rfl
@[simp] theorem raiseSync_faults (s : State)  : (s.raiseSync).faults = s.faults := rfl
@[simp] theorem raiseSync_engine (s : State)  : (s.raiseSync).engine = s.engine := rfl
@[simp] theorem raiseSync_pending (s : State)  : (s.raiseSync).pending = s.pending := rfl

@[simp] theorem clearFlags_timeBase (s : State) (l : Link) (w : BitVec 11) : (s.clearFlags l w).timeBase = s.timeBase := rfl
@[simp] theorem clearFlags_clock (s : State) (l : Link) (w : BitVec 11) : (s.clearFlags l w).clock = s.clock := rfl
@[simp] theorem clearFlags_marks (s : State) (l : Link) (w : BitVec 11) : (s.clearFlags l w).marks = s.marks := rfl
@[simp] theorem clearFlags_pool (s : State) (l : Link) (w : BitVec 11) : (s.clearFlags l w).pool = s.pool := rfl
@[simp] theorem clearFlags_table (s : State) (l : Link) (w : BitVec 11) : (s.clearFlags l w).table = s.table := rfl
@[simp] theorem clearFlags_staging (s : State) (l : Link) (w : BitVec 11) : (s.clearFlags l w).staging = s.staging := rfl
@[simp] theorem clearFlags_limits (s : State) (l : Link) (w : BitVec 11) : (s.clearFlags l w).limits = s.limits := rfl
@[simp] theorem clearFlags_drivers (s : State) (l : Link) (w : BitVec 11) : (s.clearFlags l w).drivers = s.drivers := rfl
@[simp] theorem clearFlags_faults (s : State) (l : Link) (w : BitVec 11) : (s.clearFlags l w).faults = s.faults := rfl
@[simp] theorem clearFlags_engine (s : State) (l : Link) (w : BitVec 11) : (s.clearFlags l w).engine = s.engine := rfl
@[simp] theorem clearFlags_pending (s : State) (l : Link) (w : BitVec 11) : (s.clearFlags l w).pending = s.pending := rfl

@[simp] theorem respond_timeBase (s : State) (l : Link) (x : Status) (c : Byte) (d : Data) : (s.respond l x c d).timeBase = s.timeBase := rfl
@[simp] theorem respond_clock (s : State) (l : Link) (x : Status) (c : Byte) (d : Data) : (s.respond l x c d).clock = s.clock := rfl
@[simp] theorem respond_marks (s : State) (l : Link) (x : Status) (c : Byte) (d : Data) : (s.respond l x c d).marks = s.marks := rfl
@[simp] theorem respond_pool (s : State) (l : Link) (x : Status) (c : Byte) (d : Data) : (s.respond l x c d).pool = s.pool := rfl
@[simp] theorem respond_table (s : State) (l : Link) (x : Status) (c : Byte) (d : Data) : (s.respond l x c d).table = s.table := rfl
@[simp] theorem respond_staging (s : State) (l : Link) (x : Status) (c : Byte) (d : Data) : (s.respond l x c d).staging = s.staging := rfl
@[simp] theorem respond_limits (s : State) (l : Link) (x : Status) (c : Byte) (d : Data) : (s.respond l x c d).limits = s.limits := rfl
@[simp] theorem respond_drivers (s : State) (l : Link) (x : Status) (c : Byte) (d : Data) : (s.respond l x c d).drivers = s.drivers := rfl
@[simp] theorem respond_faults (s : State) (l : Link) (x : Status) (c : Byte) (d : Data) : (s.respond l x c d).faults = s.faults := rfl
@[simp] theorem respond_engine (s : State) (l : Link) (x : Status) (c : Byte) (d : Data) : (s.respond l x c d).engine = s.engine := rfl
@[simp] theorem respond_pending (s : State) (l : Link) (x : Status) (c : Byte) (d : Data) : (s.respond l x c d).pending = s.pending := rfl

/-- An entry appended to a log with room stands at its back (R147). -/
theorem append_of_room (s : State) (l : Link) (e : LogEntry) (h : (s.links.get l).log.length < 32) :
    s.append l e = s.setLink l { s.links.get l with log := (s.links.get l).log ++ [e] } := by
  simp [append, Config.logDepth, h]

/-- An entry appended to a full log is lost, and LOG_LOST is raised (R147). -/
theorem append_of_full (s : State) (l : Link) (e : LogEntry) (h : 32 ≤ (s.links.get l).log.length) :
    s.append l e = s.raiseFlag l .logLost := by
  simp [append, Config.logDepth, Nat.not_lt.mpr h]

@[simp] theorem append_timeBase (s : State) (l : Link) (e : LogEntry) : (s.append l e).timeBase = s.timeBase := by
  unfold append; split <;> rfl
@[simp] theorem append_clock (s : State) (l : Link) (e : LogEntry) : (s.append l e).clock = s.clock := by
  unfold append; split <;> rfl
@[simp] theorem append_marks (s : State) (l : Link) (e : LogEntry) : (s.append l e).marks = s.marks := by
  unfold append; split <;> rfl
@[simp] theorem append_pool (s : State) (l : Link) (e : LogEntry) : (s.append l e).pool = s.pool := by
  unfold append; split <;> rfl
@[simp] theorem append_table (s : State) (l : Link) (e : LogEntry) : (s.append l e).table = s.table := by
  unfold append; split <;> rfl
@[simp] theorem append_staging (s : State) (l : Link) (e : LogEntry) : (s.append l e).staging = s.staging := by
  unfold append; split <;> rfl
@[simp] theorem append_limits (s : State) (l : Link) (e : LogEntry) : (s.append l e).limits = s.limits := by
  unfold append; split <;> rfl
@[simp] theorem append_drivers (s : State) (l : Link) (e : LogEntry) : (s.append l e).drivers = s.drivers := by
  unfold append; split <;> rfl
@[simp] theorem append_faults (s : State) (l : Link) (e : LogEntry) : (s.append l e).faults = s.faults := by
  unfold append; split <;> rfl
@[simp] theorem append_engine (s : State) (l : Link) (e : LogEntry) : (s.append l e).engine = s.engine := by
  unfold append; split <;> rfl
@[simp] theorem append_pending (s : State) (l : Link) (e : LogEntry) : (s.append l e).pending = s.pending := by
  unfold append; split <;> rfl

@[simp] theorem reportDisplaced_timeBase (s : State) (r : Record) (c : DisplaceCause) : (s.reportDisplaced r c).timeBase = s.timeBase := by
  simp [reportDisplaced]
@[simp] theorem reportDisplaced_clock (s : State) (r : Record) (c : DisplaceCause) : (s.reportDisplaced r c).clock = s.clock := by
  simp [reportDisplaced]
@[simp] theorem reportDisplaced_marks (s : State) (r : Record) (c : DisplaceCause) : (s.reportDisplaced r c).marks = s.marks := by
  simp [reportDisplaced]
@[simp] theorem reportDisplaced_pool (s : State) (r : Record) (c : DisplaceCause) : (s.reportDisplaced r c).pool = s.pool := by
  simp [reportDisplaced]
@[simp] theorem reportDisplaced_table (s : State) (r : Record) (c : DisplaceCause) : (s.reportDisplaced r c).table = s.table := by
  simp [reportDisplaced]
@[simp] theorem reportDisplaced_staging (s : State) (r : Record) (c : DisplaceCause) : (s.reportDisplaced r c).staging = s.staging := by
  simp [reportDisplaced]
@[simp] theorem reportDisplaced_limits (s : State) (r : Record) (c : DisplaceCause) : (s.reportDisplaced r c).limits = s.limits := by
  simp [reportDisplaced]
@[simp] theorem reportDisplaced_drivers (s : State) (r : Record) (c : DisplaceCause) : (s.reportDisplaced r c).drivers = s.drivers := by
  simp [reportDisplaced]
@[simp] theorem reportDisplaced_faults (s : State) (r : Record) (c : DisplaceCause) : (s.reportDisplaced r c).faults = s.faults := by
  simp [reportDisplaced]
@[simp] theorem reportDisplaced_engine (s : State) (r : Record) (c : DisplaceCause) : (s.reportDisplaced r c).engine = s.engine := by
  simp [reportDisplaced]
@[simp] theorem reportDisplaced_pending (s : State) (r : Record) (c : DisplaceCause) : (s.reportDisplaced r c).pending = s.pending := by
  simp [reportDisplaced]

@[simp] theorem respond_links (s : State) (l : Link) (x : Status) (c : Byte) (d : Data) :
    (s.respond l x c d).links = s.links.set l { s.links.get l with response := formResponse x c d } := rfl

@[simp] theorem raiseFlag_links (s : State) (l : Link) (f : Flag) :
    (s.raiseFlag l f).links = s.links.set l { s.links.get l with sticky := (s.links.get l).sticky ||| f.mask } := rfl

/-- Raising a flag twice is raising it once (R150). -/
theorem raiseFlag_twice (s : State) (l : Link) (f : Flag) : (s.raiseFlag l f).raiseFlag l f = s.raiseFlag l f := by
  simp [raiseFlag, setLink, BitVec.or_assoc]

/-- An append leaves the pending response, the notice enables and the port of every link (R147). -/
theorem append_get (s : State) (l m : Link) (e : LogEntry) :
    ((s.append l e).links.get m).response = (s.links.get m).response
      ∧ ((s.append l e).links.get m).enables = (s.links.get m).enables
      ∧ ((s.append l e).links.get m).ignoring = (s.links.get m).ignoring := by
  unfold append
  split <;> simp only [setLink_links, raiseFlag_links, PerLink.get_set] <;> split <;> simp_all

/-! ### The timeline -/

@[simp] theorem updateRecord_timeBase (s : State) (k : Slot) (f : Record → Record) : (s.updateRecord k f).timeBase = s.timeBase := rfl
@[simp] theorem updateRecord_clock (s : State) (k : Slot) (f : Record → Record) : (s.updateRecord k f).clock = s.clock := rfl
@[simp] theorem updateRecord_marks (s : State) (k : Slot) (f : Record → Record) : (s.updateRecord k f).marks = s.marks := rfl
@[simp] theorem updateRecord_table (s : State) (k : Slot) (f : Record → Record) : (s.updateRecord k f).table = s.table := rfl
@[simp] theorem updateRecord_staging (s : State) (k : Slot) (f : Record → Record) : (s.updateRecord k f).staging = s.staging := rfl
@[simp] theorem updateRecord_limits (s : State) (k : Slot) (f : Record → Record) : (s.updateRecord k f).limits = s.limits := rfl
@[simp] theorem updateRecord_drivers (s : State) (k : Slot) (f : Record → Record) : (s.updateRecord k f).drivers = s.drivers := rfl
@[simp] theorem updateRecord_faults (s : State) (k : Slot) (f : Record → Record) : (s.updateRecord k f).faults = s.faults := rfl
@[simp] theorem updateRecord_links (s : State) (k : Slot) (f : Record → Record) : (s.updateRecord k f).links = s.links := rfl
@[simp] theorem updateRecord_engine (s : State) (k : Slot) (f : Record → Record) : (s.updateRecord k f).engine = s.engine := rfl
@[simp] theorem updateRecord_pending (s : State) (k : Slot) (f : Record → Record) : (s.updateRecord k f).pending = s.pending := rfl

@[simp] theorem mapRecords_timeBase (s : State) (f : Record → Record) : (s.mapRecords f).timeBase = s.timeBase := rfl
@[simp] theorem mapRecords_clock (s : State) (f : Record → Record) : (s.mapRecords f).clock = s.clock := rfl
@[simp] theorem mapRecords_marks (s : State) (f : Record → Record) : (s.mapRecords f).marks = s.marks := rfl
@[simp] theorem mapRecords_table (s : State) (f : Record → Record) : (s.mapRecords f).table = s.table := rfl
@[simp] theorem mapRecords_staging (s : State) (f : Record → Record) : (s.mapRecords f).staging = s.staging := rfl
@[simp] theorem mapRecords_limits (s : State) (f : Record → Record) : (s.mapRecords f).limits = s.limits := rfl
@[simp] theorem mapRecords_drivers (s : State) (f : Record → Record) : (s.mapRecords f).drivers = s.drivers := rfl
@[simp] theorem mapRecords_faults (s : State) (f : Record → Record) : (s.mapRecords f).faults = s.faults := rfl
@[simp] theorem mapRecords_links (s : State) (f : Record → Record) : (s.mapRecords f).links = s.links := rfl
@[simp] theorem mapRecords_engine (s : State) (f : Record → Record) : (s.mapRecords f).engine = s.engine := rfl
@[simp] theorem mapRecords_pending (s : State) (f : Record → Record) : (s.mapRecords f).pending = s.pending := rfl

@[simp] theorem clearCarry_timeBase (s : State)  : (s.clearCarry).timeBase = s.timeBase := rfl
@[simp] theorem clearCarry_clock (s : State)  : (s.clearCarry).clock = s.clock := rfl
@[simp] theorem clearCarry_marks (s : State)  : (s.clearCarry).marks = s.marks := rfl
@[simp] theorem clearCarry_pool (s : State)  : (s.clearCarry).pool = s.pool := rfl
@[simp] theorem clearCarry_staging (s : State)  : (s.clearCarry).staging = s.staging := rfl
@[simp] theorem clearCarry_limits (s : State)  : (s.clearCarry).limits = s.limits := rfl
@[simp] theorem clearCarry_drivers (s : State)  : (s.clearCarry).drivers = s.drivers := rfl
@[simp] theorem clearCarry_faults (s : State)  : (s.clearCarry).faults = s.faults := rfl
@[simp] theorem clearCarry_links (s : State)  : (s.clearCarry).links = s.links := rfl
@[simp] theorem clearCarry_engine (s : State)  : (s.clearCarry).engine = s.engine := rfl
@[simp] theorem clearCarry_pending (s : State)  : (s.clearCarry).pending = s.pending := rfl

@[simp] theorem dropWaiting_timeBase (s : State) (k : Slot) : (s.dropWaiting k).timeBase = s.timeBase := rfl
@[simp] theorem dropWaiting_clock (s : State) (k : Slot) : (s.dropWaiting k).clock = s.clock := rfl
@[simp] theorem dropWaiting_marks (s : State) (k : Slot) : (s.dropWaiting k).marks = s.marks := rfl
@[simp] theorem dropWaiting_pool (s : State) (k : Slot) : (s.dropWaiting k).pool = s.pool := rfl
@[simp] theorem dropWaiting_table (s : State) (k : Slot) : (s.dropWaiting k).table = s.table := rfl
@[simp] theorem dropWaiting_staging (s : State) (k : Slot) : (s.dropWaiting k).staging = s.staging := rfl
@[simp] theorem dropWaiting_limits (s : State) (k : Slot) : (s.dropWaiting k).limits = s.limits := rfl
@[simp] theorem dropWaiting_faults (s : State) (k : Slot) : (s.dropWaiting k).faults = s.faults := rfl
@[simp] theorem dropWaiting_links (s : State) (k : Slot) : (s.dropWaiting k).links = s.links := rfl
@[simp] theorem dropWaiting_engine (s : State) (k : Slot) : (s.dropWaiting k).engine = s.engine := rfl
@[simp] theorem dropWaiting_pending (s : State) (k : Slot) : (s.dropWaiting k).pending = s.pending := rfl

@[simp] theorem joinWaiting_timeBase (s : State) (b : Bank) (e : WaitEntry) : (s.joinWaiting b e).timeBase = s.timeBase := rfl
@[simp] theorem joinWaiting_clock (s : State) (b : Bank) (e : WaitEntry) : (s.joinWaiting b e).clock = s.clock := rfl
@[simp] theorem joinWaiting_marks (s : State) (b : Bank) (e : WaitEntry) : (s.joinWaiting b e).marks = s.marks := rfl
@[simp] theorem joinWaiting_pool (s : State) (b : Bank) (e : WaitEntry) : (s.joinWaiting b e).pool = s.pool := rfl
@[simp] theorem joinWaiting_table (s : State) (b : Bank) (e : WaitEntry) : (s.joinWaiting b e).table = s.table := rfl
@[simp] theorem joinWaiting_staging (s : State) (b : Bank) (e : WaitEntry) : (s.joinWaiting b e).staging = s.staging := rfl
@[simp] theorem joinWaiting_limits (s : State) (b : Bank) (e : WaitEntry) : (s.joinWaiting b e).limits = s.limits := rfl
@[simp] theorem joinWaiting_faults (s : State) (b : Bank) (e : WaitEntry) : (s.joinWaiting b e).faults = s.faults := rfl
@[simp] theorem joinWaiting_links (s : State) (b : Bank) (e : WaitEntry) : (s.joinWaiting b e).links = s.links := rfl
@[simp] theorem joinWaiting_engine (s : State) (b : Bank) (e : WaitEntry) : (s.joinWaiting b e).engine = s.engine := rfl
@[simp] theorem joinWaiting_pending (s : State) (b : Bank) (e : WaitEntry) : (s.joinWaiting b e).pending = s.pending := rfl

@[simp] theorem freeSlot_timeBase (s : State) (k : Slot) : (s.freeSlot k).timeBase = s.timeBase := rfl
@[simp] theorem freeSlot_clock (s : State) (k : Slot) : (s.freeSlot k).clock = s.clock := rfl
@[simp] theorem freeSlot_marks (s : State) (k : Slot) : (s.freeSlot k).marks = s.marks := rfl
@[simp] theorem freeSlot_table (s : State) (k : Slot) : (s.freeSlot k).table = s.table := rfl
@[simp] theorem freeSlot_staging (s : State) (k : Slot) : (s.freeSlot k).staging = s.staging := rfl
@[simp] theorem freeSlot_limits (s : State) (k : Slot) : (s.freeSlot k).limits = s.limits := rfl
@[simp] theorem freeSlot_faults (s : State) (k : Slot) : (s.freeSlot k).faults = s.faults := rfl
@[simp] theorem freeSlot_links (s : State) (k : Slot) : (s.freeSlot k).links = s.links := rfl
@[simp] theorem freeSlot_engine (s : State) (k : Slot) : (s.freeSlot k).engine = s.engine := rfl
@[simp] theorem freeSlot_pending (s : State) (k : Slot) : (s.freeSlot k).pending = s.pending := rfl

@[simp] theorem returnPending_timeBase (s : State) (k : Slot) : (s.returnPending k).timeBase = s.timeBase := rfl
@[simp] theorem returnPending_clock (s : State) (k : Slot) : (s.returnPending k).clock = s.clock := rfl
@[simp] theorem returnPending_marks (s : State) (k : Slot) : (s.returnPending k).marks = s.marks := rfl
@[simp] theorem returnPending_table (s : State) (k : Slot) : (s.returnPending k).table = s.table := rfl
@[simp] theorem returnPending_staging (s : State) (k : Slot) : (s.returnPending k).staging = s.staging := rfl
@[simp] theorem returnPending_limits (s : State) (k : Slot) : (s.returnPending k).limits = s.limits := rfl
@[simp] theorem returnPending_faults (s : State) (k : Slot) : (s.returnPending k).faults = s.faults := rfl
@[simp] theorem returnPending_links (s : State) (k : Slot) : (s.returnPending k).links = s.links := rfl
@[simp] theorem returnPending_engine (s : State) (k : Slot) : (s.returnPending k).engine = s.engine := rfl
@[simp] theorem returnPending_pending (s : State) (k : Slot) : (s.returnPending k).pending = s.pending := rfl

@[simp] theorem returnCounted_timeBase (s : State) (k : Slot) : (s.returnCounted k).timeBase = s.timeBase := rfl
@[simp] theorem returnCounted_clock (s : State) (k : Slot) : (s.returnCounted k).clock = s.clock := rfl
@[simp] theorem returnCounted_marks (s : State) (k : Slot) : (s.returnCounted k).marks = s.marks := rfl
@[simp] theorem returnCounted_table (s : State) (k : Slot) : (s.returnCounted k).table = s.table := rfl
@[simp] theorem returnCounted_staging (s : State) (k : Slot) : (s.returnCounted k).staging = s.staging := rfl
@[simp] theorem returnCounted_limits (s : State) (k : Slot) : (s.returnCounted k).limits = s.limits := rfl
@[simp] theorem returnCounted_faults (s : State) (k : Slot) : (s.returnCounted k).faults = s.faults := rfl
@[simp] theorem returnCounted_links (s : State) (k : Slot) : (s.returnCounted k).links = s.links := rfl
@[simp] theorem returnCounted_engine (s : State) (k : Slot) : (s.returnCounted k).engine = s.engine := rfl
@[simp] theorem returnCounted_pending (s : State) (k : Slot) : (s.returnCounted k).pending = s.pending := rfl

@[simp] theorem freeSlots_timeBase (s : State) (ks : List Slot) : (s.freeSlots ks).timeBase = s.timeBase := 
  foldl_keeps _ (·.timeBase) (fun s k => freeSlot_timeBase s k) ks s
@[simp] theorem freeSlots_clock (s : State) (ks : List Slot) : (s.freeSlots ks).clock = s.clock := 
  foldl_keeps _ (·.clock) (fun s k => freeSlot_clock s k) ks s
@[simp] theorem freeSlots_marks (s : State) (ks : List Slot) : (s.freeSlots ks).marks = s.marks := 
  foldl_keeps _ (·.marks) (fun s k => freeSlot_marks s k) ks s
@[simp] theorem freeSlots_table (s : State) (ks : List Slot) : (s.freeSlots ks).table = s.table := 
  foldl_keeps _ (·.table) (fun s k => freeSlot_table s k) ks s
@[simp] theorem freeSlots_staging (s : State) (ks : List Slot) : (s.freeSlots ks).staging = s.staging := 
  foldl_keeps _ (·.staging) (fun s k => freeSlot_staging s k) ks s
@[simp] theorem freeSlots_limits (s : State) (ks : List Slot) : (s.freeSlots ks).limits = s.limits := 
  foldl_keeps _ (·.limits) (fun s k => freeSlot_limits s k) ks s
@[simp] theorem freeSlots_faults (s : State) (ks : List Slot) : (s.freeSlots ks).faults = s.faults := 
  foldl_keeps _ (·.faults) (fun s k => freeSlot_faults s k) ks s
@[simp] theorem freeSlots_links (s : State) (ks : List Slot) : (s.freeSlots ks).links = s.links := 
  foldl_keeps _ (·.links) (fun s k => freeSlot_links s k) ks s
@[simp] theorem freeSlots_engine (s : State) (ks : List Slot) : (s.freeSlots ks).engine = s.engine := 
  foldl_keeps _ (·.engine) (fun s k => freeSlot_engine s k) ks s
@[simp] theorem freeSlots_pending (s : State) (ks : List Slot) : (s.freeSlots ks).pending = s.pending := 
  foldl_keeps _ (·.pending) (fun s k => freeSlot_pending s k) ks s

@[simp] theorem dropWaiting_fire (s : State) (k : Slot) : (s.dropWaiting k).drivers.fire = s.drivers.fire := rfl

/-- A slot dropped leaves both waiting lists, every other entry kept in order (R110). -/
@[simp] theorem dropWaiting_waiting (s : State) (k : Slot) (b : Bank) :
    ((s.dropWaiting k).drivers.get b).waiting = (s.drivers.get b).waiting.filter fun e => e.slot != k := by
  cases b <;> rfl

@[simp] theorem dropWaiting_state (s : State) (k : Slot) (b : Bank) :
    ((s.dropWaiting k).drivers.get b).state = (s.drivers.get b).state := by
  cases b <;> rfl

/-- What retirement does: it frees a final record or one of repeat 1, counts down a greater repeat, and returns a standing record
(R123). -/
theorem retire_cases (s : State) (k : Slot) (r : Record) :
    ((r.final = true ∨ r.repeats = 1) ∧ s.retire k r = (s.freeSlot k, 0, true))
      ∨ (r.final = false ∧ 1 < r.repeats ∧ s.retire k r = (s.returnCounted k, r.repeats - 1, false))
      ∨ (r.final = false ∧ r.repeats = 0 ∧ s.retire k r = (s.returnPending k, 0, false)) := by
  unfold retire
  rcases Bool.eq_false_or_eq_true r.final with hf | hf
  · exact .inl ⟨.inl hf, by simp [hf]⟩
  · rcases Nat.lt_trichotomy r.repeats 1 with h | h | h
    · have h0 : r.repeats = 0 := by omega
      exact .inr (.inr ⟨hf, h0, by simp [hf, h0]⟩)
    · exact .inl ⟨.inr h, by simp [h]⟩
    · have h1 : r.repeats ≠ 1 := by omega
      exact .inr (.inl ⟨hf, h, by simp [hf, h, h1]⟩)

@[simp] theorem retire_timeBase (s : State) (k : Slot) (r : Record) : ((s.retire k r).1).timeBase = s.timeBase := by
  unfold retire; split_ifs <;> rfl
@[simp] theorem retire_clock (s : State) (k : Slot) (r : Record) : ((s.retire k r).1).clock = s.clock := by
  unfold retire; split_ifs <;> rfl
@[simp] theorem retire_marks (s : State) (k : Slot) (r : Record) : ((s.retire k r).1).marks = s.marks := by
  unfold retire; split_ifs <;> rfl
@[simp] theorem retire_table (s : State) (k : Slot) (r : Record) : ((s.retire k r).1).table = s.table := by
  unfold retire; split_ifs <;> rfl
@[simp] theorem retire_staging (s : State) (k : Slot) (r : Record) : ((s.retire k r).1).staging = s.staging := by
  unfold retire; split_ifs <;> rfl
@[simp] theorem retire_limits (s : State) (k : Slot) (r : Record) : ((s.retire k r).1).limits = s.limits := by
  unfold retire; split_ifs <;> rfl
@[simp] theorem retire_faults (s : State) (k : Slot) (r : Record) : ((s.retire k r).1).faults = s.faults := by
  unfold retire; split_ifs <;> rfl
@[simp] theorem retire_links (s : State) (k : Slot) (r : Record) : ((s.retire k r).1).links = s.links := by
  unfold retire; split_ifs <;> rfl
@[simp] theorem retire_engine (s : State) (k : Slot) (r : Record) : ((s.retire k r).1).engine = s.engine := by
  unfold retire; split_ifs <;> rfl
@[simp] theorem retire_pending (s : State) (k : Slot) (r : Record) : ((s.retire k r).1).pending = s.pending := by
  unfold retire; split_ifs <;> rfl

@[simp] theorem endOpportunity_timeBase (s : State) (k : Slot) (x : Outcome) (cy : Word16) (st : Option Time) (d : Nat) (nr : Bool) : (s.endOpportunity k x cy st d nr).timeBase = s.timeBase := by
  unfold endOpportunity; split
  · rfl
  · dsimp only; split <;> simp
@[simp] theorem endOpportunity_clock (s : State) (k : Slot) (x : Outcome) (cy : Word16) (st : Option Time) (d : Nat) (nr : Bool) : (s.endOpportunity k x cy st d nr).clock = s.clock := by
  unfold endOpportunity; split
  · rfl
  · dsimp only; split <;> simp
@[simp] theorem endOpportunity_marks (s : State) (k : Slot) (x : Outcome) (cy : Word16) (st : Option Time) (d : Nat) (nr : Bool) : (s.endOpportunity k x cy st d nr).marks = s.marks := by
  unfold endOpportunity; split
  · rfl
  · dsimp only; split <;> simp
@[simp] theorem endOpportunity_table (s : State) (k : Slot) (x : Outcome) (cy : Word16) (st : Option Time) (d : Nat) (nr : Bool) : (s.endOpportunity k x cy st d nr).table = s.table := by
  unfold endOpportunity; split
  · rfl
  · dsimp only; split <;> simp
@[simp] theorem endOpportunity_staging (s : State) (k : Slot) (x : Outcome) (cy : Word16) (st : Option Time) (d : Nat) (nr : Bool) : (s.endOpportunity k x cy st d nr).staging = s.staging := by
  unfold endOpportunity; split
  · rfl
  · dsimp only; split <;> simp
@[simp] theorem endOpportunity_limits (s : State) (k : Slot) (x : Outcome) (cy : Word16) (st : Option Time) (d : Nat) (nr : Bool) : (s.endOpportunity k x cy st d nr).limits = s.limits := by
  unfold endOpportunity; split
  · rfl
  · dsimp only; split <;> simp
@[simp] theorem endOpportunity_faults (s : State) (k : Slot) (x : Outcome) (cy : Word16) (st : Option Time) (d : Nat) (nr : Bool) : (s.endOpportunity k x cy st d nr).faults = s.faults := by
  unfold endOpportunity; split
  · rfl
  · dsimp only; split <;> simp
@[simp] theorem endOpportunity_engine (s : State) (k : Slot) (x : Outcome) (cy : Word16) (st : Option Time) (d : Nat) (nr : Bool) : (s.endOpportunity k x cy st d nr).engine = s.engine := by
  unfold endOpportunity; split
  · rfl
  · dsimp only; split <;> simp
@[simp] theorem endOpportunity_pending (s : State) (k : Slot) (x : Outcome) (cy : Word16) (st : Option Time) (d : Nat) (nr : Bool) : (s.endOpportunity k x cy st d nr).pending = s.pending := by
  unfold endOpportunity; split
  · rfl
  · dsimp only; split <;> simp

@[simp] theorem endUnstarted_timeBase (s : State) (k : Slot) (x : Outcome) : (s.endUnstarted k x).timeBase = s.timeBase := by
  simp [endUnstarted]
@[simp] theorem endUnstarted_clock (s : State) (k : Slot) (x : Outcome) : (s.endUnstarted k x).clock = s.clock := by
  simp [endUnstarted]
@[simp] theorem endUnstarted_marks (s : State) (k : Slot) (x : Outcome) : (s.endUnstarted k x).marks = s.marks := by
  simp [endUnstarted]
@[simp] theorem endUnstarted_table (s : State) (k : Slot) (x : Outcome) : (s.endUnstarted k x).table = s.table := by
  simp [endUnstarted]
@[simp] theorem endUnstarted_staging (s : State) (k : Slot) (x : Outcome) : (s.endUnstarted k x).staging = s.staging := by
  simp [endUnstarted]
@[simp] theorem endUnstarted_limits (s : State) (k : Slot) (x : Outcome) : (s.endUnstarted k x).limits = s.limits := by
  simp [endUnstarted]
@[simp] theorem endUnstarted_faults (s : State) (k : Slot) (x : Outcome) : (s.endUnstarted k x).faults = s.faults := by
  simp [endUnstarted]
@[simp] theorem endUnstarted_engine (s : State) (k : Slot) (x : Outcome) : (s.endUnstarted k x).engine = s.engine := by
  simp [endUnstarted]
@[simp] theorem endUnstarted_pending (s : State) (k : Slot) (x : Outcome) : (s.endUnstarted k x).pending = s.pending := by
  simp [endUnstarted]

@[simp] theorem suppressReleased_timeBase (s : State) (k : Slot) (c : SuppressCause) : (s.suppressReleased k c).timeBase = s.timeBase := by
  unfold suppressReleased; split
  · split <;> simp
  · rfl
@[simp] theorem suppressReleased_clock (s : State) (k : Slot) (c : SuppressCause) : (s.suppressReleased k c).clock = s.clock := by
  unfold suppressReleased; split
  · split <;> simp
  · rfl
@[simp] theorem suppressReleased_marks (s : State) (k : Slot) (c : SuppressCause) : (s.suppressReleased k c).marks = s.marks := by
  unfold suppressReleased; split
  · split <;> simp
  · rfl
@[simp] theorem suppressReleased_table (s : State) (k : Slot) (c : SuppressCause) : (s.suppressReleased k c).table = s.table := by
  unfold suppressReleased; split
  · split <;> simp
  · rfl
@[simp] theorem suppressReleased_staging (s : State) (k : Slot) (c : SuppressCause) : (s.suppressReleased k c).staging = s.staging := by
  unfold suppressReleased; split
  · split <;> simp
  · rfl
@[simp] theorem suppressReleased_limits (s : State) (k : Slot) (c : SuppressCause) : (s.suppressReleased k c).limits = s.limits := by
  unfold suppressReleased; split
  · split <;> simp
  · rfl
@[simp] theorem suppressReleased_faults (s : State) (k : Slot) (c : SuppressCause) : (s.suppressReleased k c).faults = s.faults := by
  unfold suppressReleased; split
  · split <;> simp
  · rfl
@[simp] theorem suppressReleased_engine (s : State) (k : Slot) (c : SuppressCause) : (s.suppressReleased k c).engine = s.engine := by
  unfold suppressReleased; split
  · split <;> simp
  · rfl
@[simp] theorem suppressReleased_pending (s : State) (k : Slot) (c : SuppressCause) : (s.suppressReleased k c).pending = s.pending := by
  unfold suppressReleased; split
  · split <;> simp
  · rfl

@[simp] theorem overspeedSweep_timeBase (s : State)  : (s.overspeedSweep).timeBase = s.timeBase := 
  foldl_keeps _ (·.timeBase) (fun s k => suppressReleased_timeBase s k .overspeed) _ s
@[simp] theorem overspeedSweep_clock (s : State)  : (s.overspeedSweep).clock = s.clock := 
  foldl_keeps _ (·.clock) (fun s k => suppressReleased_clock s k .overspeed) _ s
@[simp] theorem overspeedSweep_marks (s : State)  : (s.overspeedSweep).marks = s.marks := 
  foldl_keeps _ (·.marks) (fun s k => suppressReleased_marks s k .overspeed) _ s
@[simp] theorem overspeedSweep_table (s : State)  : (s.overspeedSweep).table = s.table := 
  foldl_keeps _ (·.table) (fun s k => suppressReleased_table s k .overspeed) _ s
@[simp] theorem overspeedSweep_staging (s : State)  : (s.overspeedSweep).staging = s.staging := 
  foldl_keeps _ (·.staging) (fun s k => suppressReleased_staging s k .overspeed) _ s
@[simp] theorem overspeedSweep_limits (s : State)  : (s.overspeedSweep).limits = s.limits := 
  foldl_keeps _ (·.limits) (fun s k => suppressReleased_limits s k .overspeed) _ s
@[simp] theorem overspeedSweep_faults (s : State)  : (s.overspeedSweep).faults = s.faults := 
  foldl_keeps _ (·.faults) (fun s k => suppressReleased_faults s k .overspeed) _ s
@[simp] theorem overspeedSweep_engine (s : State)  : (s.overspeedSweep).engine = s.engine := 
  foldl_keeps _ (·.engine) (fun s k => suppressReleased_engine s k .overspeed) _ s
@[simp] theorem overspeedSweep_pending (s : State)  : (s.overspeedSweep).pending = s.pending := 
  foldl_keeps _ (·.pending) (fun s k => suppressReleased_pending s k .overspeed) _ s

@[simp] theorem leaveReleased_timeBase (s : State) (k : Slot) : (s.leaveReleased k).timeBase = s.timeBase := by
  unfold leaveReleased; split
  · split_ifs <;> rfl
  · rfl
@[simp] theorem leaveReleased_clock (s : State) (k : Slot) : (s.leaveReleased k).clock = s.clock := by
  unfold leaveReleased; split
  · split_ifs <;> rfl
  · rfl
@[simp] theorem leaveReleased_marks (s : State) (k : Slot) : (s.leaveReleased k).marks = s.marks := by
  unfold leaveReleased; split
  · split_ifs <;> rfl
  · rfl
@[simp] theorem leaveReleased_table (s : State) (k : Slot) : (s.leaveReleased k).table = s.table := by
  unfold leaveReleased; split
  · split_ifs <;> rfl
  · rfl
@[simp] theorem leaveReleased_staging (s : State) (k : Slot) : (s.leaveReleased k).staging = s.staging := by
  unfold leaveReleased; split
  · split_ifs <;> rfl
  · rfl
@[simp] theorem leaveReleased_limits (s : State) (k : Slot) : (s.leaveReleased k).limits = s.limits := by
  unfold leaveReleased; split
  · split_ifs <;> rfl
  · rfl
@[simp] theorem leaveReleased_faults (s : State) (k : Slot) : (s.leaveReleased k).faults = s.faults := by
  unfold leaveReleased; split
  · split_ifs <;> rfl
  · rfl
@[simp] theorem leaveReleased_links (s : State) (k : Slot) : (s.leaveReleased k).links = s.links := by
  unfold leaveReleased; split
  · split_ifs <;> rfl
  · rfl
@[simp] theorem leaveReleased_engine (s : State) (k : Slot) : (s.leaveReleased k).engine = s.engine := by
  unfold leaveReleased; split
  · split_ifs <;> rfl
  · rfl
@[simp] theorem leaveReleased_pending (s : State) (k : Slot) : (s.leaveReleased k).pending = s.pending := by
  unfold leaveReleased; split
  · split_ifs <;> rfl
  · rfl

@[simp] theorem leavingSynced_timeBase (s : State)  : (s.leavingSynced).timeBase = s.timeBase := 
  foldl_keeps _ (·.timeBase) (fun s k => leaveReleased_timeBase s k) _ s
@[simp] theorem leavingSynced_clock (s : State)  : (s.leavingSynced).clock = s.clock := 
  foldl_keeps _ (·.clock) (fun s k => leaveReleased_clock s k) _ s
@[simp] theorem leavingSynced_marks (s : State)  : (s.leavingSynced).marks = s.marks := 
  foldl_keeps _ (·.marks) (fun s k => leaveReleased_marks s k) _ s
@[simp] theorem leavingSynced_table (s : State)  : (s.leavingSynced).table = s.table := 
  foldl_keeps _ (·.table) (fun s k => leaveReleased_table s k) _ s
@[simp] theorem leavingSynced_staging (s : State)  : (s.leavingSynced).staging = s.staging := 
  foldl_keeps _ (·.staging) (fun s k => leaveReleased_staging s k) _ s
@[simp] theorem leavingSynced_limits (s : State)  : (s.leavingSynced).limits = s.limits := 
  foldl_keeps _ (·.limits) (fun s k => leaveReleased_limits s k) _ s
@[simp] theorem leavingSynced_faults (s : State)  : (s.leavingSynced).faults = s.faults := 
  foldl_keeps _ (·.faults) (fun s k => leaveReleased_faults s k) _ s
@[simp] theorem leavingSynced_links (s : State)  : (s.leavingSynced).links = s.links := 
  foldl_keeps _ (·.links) (fun s k => leaveReleased_links s k) _ s
@[simp] theorem leavingSynced_engine (s : State)  : (s.leavingSynced).engine = s.engine := 
  foldl_keeps _ (·.engine) (fun s k => leaveReleased_engine s k) _ s
@[simp] theorem leavingSynced_pending (s : State)  : (s.leavingSynced).pending = s.pending := 
  foldl_keeps _ (·.pending) (fun s k => leaveReleased_pending s k) _ s

/-! ### The fault unit -/

@[simp] theorem disableCylinder_timeBase (s : State) (c : Cylinder) : (s.disableCylinder c).timeBase = s.timeBase := rfl
@[simp] theorem disableCylinder_clock (s : State) (c : Cylinder) : (s.disableCylinder c).clock = s.clock := rfl
@[simp] theorem disableCylinder_marks (s : State) (c : Cylinder) : (s.disableCylinder c).marks = s.marks := rfl
@[simp] theorem disableCylinder_pool (s : State) (c : Cylinder) : (s.disableCylinder c).pool = s.pool := rfl
@[simp] theorem disableCylinder_table (s : State) (c : Cylinder) : (s.disableCylinder c).table = s.table := rfl
@[simp] theorem disableCylinder_staging (s : State) (c : Cylinder) : (s.disableCylinder c).staging = s.staging := rfl
@[simp] theorem disableCylinder_drivers (s : State) (c : Cylinder) : (s.disableCylinder c).drivers = s.drivers := rfl
@[simp] theorem disableCylinder_faults (s : State) (c : Cylinder) : (s.disableCylinder c).faults = s.faults := rfl
@[simp] theorem disableCylinder_links (s : State) (c : Cylinder) : (s.disableCylinder c).links = s.links := rfl
@[simp] theorem disableCylinder_engine (s : State) (c : Cylinder) : (s.disableCylinder c).engine = s.engine := rfl
@[simp] theorem disableCylinder_pending (s : State) (c : Cylinder) : (s.disableCylinder c).pending = s.pending := rfl

@[simp] theorem react_timeBase (s : State) (k : FaultKind) (c : Option Cylinder) : (s.react k c).timeBase = s.timeBase := by
  unfold react; cases k <;> cases c <;> simp
@[simp] theorem react_clock (s : State) (k : FaultKind) (c : Option Cylinder) : (s.react k c).clock = s.clock := by
  unfold react; cases k <;> cases c <;> simp
@[simp] theorem react_marks (s : State) (k : FaultKind) (c : Option Cylinder) : (s.react k c).marks = s.marks := by
  unfold react; cases k <;> cases c <;> simp
@[simp] theorem react_table (s : State) (k : FaultKind) (c : Option Cylinder) : (s.react k c).table = s.table := by
  unfold react; cases k <;> cases c <;> simp
@[simp] theorem react_staging (s : State) (k : FaultKind) (c : Option Cylinder) : (s.react k c).staging = s.staging := by
  unfold react; cases k <;> cases c <;> simp
@[simp] theorem react_faults (s : State) (k : FaultKind) (c : Option Cylinder) : (s.react k c).faults = s.faults := by
  unfold react; cases k <;> cases c <;> simp
@[simp] theorem react_engine (s : State) (k : FaultKind) (c : Option Cylinder) : (s.react k c).engine = s.engine := by
  unfold react; cases k <;> cases c <;> simp
@[simp] theorem react_pending (s : State) (k : FaultKind) (c : Option Cylinder) : (s.react k c).pending = s.pending := by
  unfold react; cases k <;> cases c <;> simp

@[simp] theorem latchFault_timeBase (s : State) (r : FaultRecord) : (s.latchFault r).timeBase = s.timeBase := by
  unfold latchFault; dsimp only; split <;> rfl
@[simp] theorem latchFault_clock (s : State) (r : FaultRecord) : (s.latchFault r).clock = s.clock := by
  unfold latchFault; dsimp only; split <;> rfl
@[simp] theorem latchFault_marks (s : State) (r : FaultRecord) : (s.latchFault r).marks = s.marks := by
  unfold latchFault; dsimp only; split <;> rfl
@[simp] theorem latchFault_pool (s : State) (r : FaultRecord) : (s.latchFault r).pool = s.pool := by
  unfold latchFault; dsimp only; split <;> rfl
@[simp] theorem latchFault_table (s : State) (r : FaultRecord) : (s.latchFault r).table = s.table := by
  unfold latchFault; dsimp only; split <;> rfl
@[simp] theorem latchFault_staging (s : State) (r : FaultRecord) : (s.latchFault r).staging = s.staging := by
  unfold latchFault; dsimp only; split <;> rfl
@[simp] theorem latchFault_limits (s : State) (r : FaultRecord) : (s.latchFault r).limits = s.limits := by
  unfold latchFault; dsimp only; split <;> rfl
@[simp] theorem latchFault_drivers (s : State) (r : FaultRecord) : (s.latchFault r).drivers = s.drivers := by
  unfold latchFault; dsimp only; split <;> rfl
@[simp] theorem latchFault_engine (s : State) (r : FaultRecord) : (s.latchFault r).engine = s.engine := by
  unfold latchFault; dsimp only; split <;> rfl
@[simp] theorem latchFault_pending (s : State) (r : FaultRecord) : (s.latchFault r).pending = s.pending := by
  unfold latchFault; dsimp only; split <;> rfl

@[simp] theorem takeFault_timeBase (s : State) (r : FaultRecord) : (s.takeFault r).timeBase = s.timeBase := by
  unfold takeFault; dsimp only; split <;> simp
@[simp] theorem takeFault_clock (s : State) (r : FaultRecord) : (s.takeFault r).clock = s.clock := by
  unfold takeFault; dsimp only; split <;> simp
@[simp] theorem takeFault_marks (s : State) (r : FaultRecord) : (s.takeFault r).marks = s.marks := by
  unfold takeFault; dsimp only; split <;> simp
@[simp] theorem takeFault_pool (s : State) (r : FaultRecord) : (s.takeFault r).pool = s.pool := by
  unfold takeFault; dsimp only; split <;> simp
@[simp] theorem takeFault_table (s : State) (r : FaultRecord) : (s.takeFault r).table = s.table := by
  unfold takeFault; dsimp only; split <;> simp
@[simp] theorem takeFault_staging (s : State) (r : FaultRecord) : (s.takeFault r).staging = s.staging := by
  unfold takeFault; dsimp only; split <;> simp
@[simp] theorem takeFault_limits (s : State) (r : FaultRecord) : (s.takeFault r).limits = s.limits := by
  unfold takeFault; dsimp only; split <;> simp
@[simp] theorem takeFault_drivers (s : State) (r : FaultRecord) : (s.takeFault r).drivers = s.drivers := by
  unfold takeFault; dsimp only; split <;> simp
@[simp] theorem takeFault_engine (s : State) (r : FaultRecord) : (s.takeFault r).engine = s.engine := by
  unfold takeFault; dsimp only; split <;> simp
@[simp] theorem takeFault_pending (s : State) (r : FaultRecord) : (s.takeFault r).pending = s.pending := by
  unfold takeFault; dsimp only; split <;> simp

@[simp] theorem handFault_timeBase (s : State) (b : Block) (k : FaultKind) (c : Option Cylinder) (x : Option Slot) :
    (s.handFault b k c x).timeBase = s.timeBase := rfl
@[simp] theorem handFault_clock (s : State) (b : Block) (k : FaultKind) (c : Option Cylinder) (x : Option Slot) :
    (s.handFault b k c x).clock = s.clock := rfl
@[simp] theorem handFault_marks (s : State) (b : Block) (k : FaultKind) (c : Option Cylinder) (x : Option Slot) :
    (s.handFault b k c x).marks = s.marks := rfl
@[simp] theorem handFault_pool (s : State) (b : Block) (k : FaultKind) (c : Option Cylinder) (x : Option Slot) :
    (s.handFault b k c x).pool = s.pool := rfl
@[simp] theorem handFault_table (s : State) (b : Block) (k : FaultKind) (c : Option Cylinder) (x : Option Slot) :
    (s.handFault b k c x).table = s.table := rfl
@[simp] theorem handFault_staging (s : State) (b : Block) (k : FaultKind) (c : Option Cylinder) (x : Option Slot) :
    (s.handFault b k c x).staging = s.staging := rfl
@[simp] theorem handFault_limits (s : State) (b : Block) (k : FaultKind) (c : Option Cylinder) (x : Option Slot) :
    (s.handFault b k c x).limits = s.limits := rfl
@[simp] theorem handFault_drivers (s : State) (b : Block) (k : FaultKind) (c : Option Cylinder) (x : Option Slot) :
    (s.handFault b k c x).drivers = s.drivers := rfl
@[simp] theorem handFault_links (s : State) (b : Block) (k : FaultKind) (c : Option Cylinder) (x : Option Slot) :
    (s.handFault b k c x).links = s.links := rfl
@[simp] theorem handFault_engine (s : State) (b : Block) (k : FaultKind) (c : Option Cylinder) (x : Option Slot) :
    (s.handFault b k c x).engine = s.engine := rfl
@[simp] theorem handFault_pending (s : State) (b : Block) (k : FaultKind) (c : Option Cylinder) (x : Option Slot) :
    (s.handFault b k c x).pending = s.pending := rfl

@[simp] theorem reactUnmasked_timeBase (s : State) (k : FaultKind) (c : Option Cylinder) : (s.reactUnmasked k c).timeBase = s.timeBase := by
  unfold reactUnmasked; split <;> simp
@[simp] theorem reactUnmasked_clock (s : State) (k : FaultKind) (c : Option Cylinder) : (s.reactUnmasked k c).clock = s.clock := by
  unfold reactUnmasked; split <;> simp
@[simp] theorem reactUnmasked_marks (s : State) (k : FaultKind) (c : Option Cylinder) : (s.reactUnmasked k c).marks = s.marks := by
  unfold reactUnmasked; split <;> simp
@[simp] theorem reactUnmasked_table (s : State) (k : FaultKind) (c : Option Cylinder) : (s.reactUnmasked k c).table = s.table := by
  unfold reactUnmasked; split <;> simp
@[simp] theorem reactUnmasked_staging (s : State) (k : FaultKind) (c : Option Cylinder) : (s.reactUnmasked k c).staging = s.staging := by
  unfold reactUnmasked; split <;> simp
@[simp] theorem reactUnmasked_engine (s : State) (k : FaultKind) (c : Option Cylinder) : (s.reactUnmasked k c).engine = s.engine := by
  unfold reactUnmasked; split <;> simp
@[simp] theorem reactUnmasked_pending (s : State) (k : FaultKind) (c : Option Cylinder) : (s.reactUnmasked k c).pending = s.pending := by
  unfold reactUnmasked; split <;> simp
@[simp] theorem reactUnmasked_faults (s : State) (k : FaultKind) (c : Option Cylinder) : (s.reactUnmasked k c).faults = s.faults := by
  unfold reactUnmasked; split <;> simp

@[simp] theorem raiseFault_timeBase (s : State) (k : FaultKind) (c : Option Cylinder) (x : Option Slot) : (s.raiseFault k c x).timeBase = s.timeBase := by
  simp [raiseFault]
@[simp] theorem raiseFault_clock (s : State) (k : FaultKind) (c : Option Cylinder) (x : Option Slot) : (s.raiseFault k c x).clock = s.clock := by
  simp [raiseFault]
@[simp] theorem raiseFault_marks (s : State) (k : FaultKind) (c : Option Cylinder) (x : Option Slot) : (s.raiseFault k c x).marks = s.marks := by
  simp [raiseFault]
@[simp] theorem raiseFault_table (s : State) (k : FaultKind) (c : Option Cylinder) (x : Option Slot) : (s.raiseFault k c x).table = s.table := by
  simp [raiseFault]
@[simp] theorem raiseFault_staging (s : State) (k : FaultKind) (c : Option Cylinder) (x : Option Slot) : (s.raiseFault k c x).staging = s.staging := by
  simp [raiseFault]
@[simp] theorem raiseFault_engine (s : State) (k : FaultKind) (c : Option Cylinder) (x : Option Slot) : (s.raiseFault k c x).engine = s.engine := by
  simp [raiseFault]
@[simp] theorem raiseFault_pending (s : State) (k : FaultKind) (c : Option Cylinder) (x : Option Slot) : (s.raiseFault k c x).pending = s.pending := by
  simp [raiseFault]

/-- What no fault taken changes, nor a change of the fault unit, is as it was after every waiting fault is taken. -/
theorem takeRaised_keeps {β : Type} (p : State → β) (h : ∀ s r, p (takeFault s r) = p s)
    (hf : ∀ s x, p (setFaults s x) = p s) (s : State) : p s.takeRaised = p s := by
  have g := foldl_keeps (fun (s : State) (y : RaisedFault) => s.takeFault y.record) p (fun s y => h s y.record)
    s.faults.raised (s.setFaults { s.faults with raised := [] })
  rw [takeRaised, g, hf]

@[simp] theorem takeRaised_timeBase (s : State) : s.takeRaised.timeBase = s.timeBase :=
  takeRaised_keeps State.timeBase takeFault_timeBase (fun _ _ => rfl) s
@[simp] theorem takeRaised_clock (s : State) : s.takeRaised.clock = s.clock :=
  takeRaised_keeps State.clock takeFault_clock (fun _ _ => rfl) s
@[simp] theorem takeRaised_marks (s : State) : s.takeRaised.marks = s.marks :=
  takeRaised_keeps State.marks takeFault_marks (fun _ _ => rfl) s
@[simp] theorem takeRaised_pool (s : State) : s.takeRaised.pool = s.pool :=
  takeRaised_keeps State.pool takeFault_pool (fun _ _ => rfl) s
@[simp] theorem takeRaised_table (s : State) : s.takeRaised.table = s.table :=
  takeRaised_keeps State.table takeFault_table (fun _ _ => rfl) s
@[simp] theorem takeRaised_staging (s : State) : s.takeRaised.staging = s.staging :=
  takeRaised_keeps State.staging takeFault_staging (fun _ _ => rfl) s
@[simp] theorem takeRaised_limits (s : State) : s.takeRaised.limits = s.limits :=
  takeRaised_keeps State.limits takeFault_limits (fun _ _ => rfl) s
@[simp] theorem takeRaised_drivers (s : State) : s.takeRaised.drivers = s.drivers :=
  takeRaised_keeps State.drivers takeFault_drivers (fun _ _ => rfl) s
@[simp] theorem takeRaised_engine (s : State) : s.takeRaised.engine = s.engine :=
  takeRaised_keeps State.engine takeFault_engine (fun _ _ => rfl) s
@[simp] theorem takeRaised_pending (s : State) : s.takeRaised.pending = s.pending :=
  takeRaised_keeps State.pending takeFault_pending (fun _ _ => rfl) s

/-- A fault taken leaves the faults that wait and the mask. -/
theorem takeFault_faults (s : State) (r : FaultRecord) :
    (s.takeFault r).faults.raised = s.faults.raised ∧ (s.takeFault r).faults.mask = s.faults.mask
      ∧ (s.takeFault r).faults.pending = s.faults.pending ||| r.kind.mask := by
  have h : (s.latchFault r).faults.raised = s.faults.raised ∧ (s.latchFault r).faults.mask = s.faults.mask
      ∧ (s.latchFault r).faults.pending = s.faults.pending ||| r.kind.mask := by
    unfold latchFault; dsimp only; split <;> exact ⟨rfl, rfl, rfl⟩
  unfold takeFault; dsimp only; split
  · exact h
  · simpa using h

/-- No fault waits after the fault unit has taken all (R140). -/
theorem takeRaised_raised (s : State) : s.takeRaised.faults.raised = [] := by
  have g := foldl_keeps (fun (s : State) (y : RaisedFault) => s.takeFault y.record) (fun s : State => s.faults.raised)
    (fun s y => (takeFault_faults s y.record).1) s.faults.raised (s.setFaults { s.faults with raised := [] })
  rw [takeRaised, g]; rfl

/-- With no fault waiting nothing is taken. -/
theorem takeRaised_of_none (s : State) (h : s.faults.raised = []) : s.takeRaised = s := by
  obtain ⟨tb, cl, ma, po, ta, st, li, dr, ⟨p, m, c, r⟩, ln, en, pe⟩ := s
  simp only at h
  subst h
  rfl

/-- A fault other than OVERSPEED and INJECTOR_WATCH has no reaction: the timeline, the drivers and the limits stay (section 8.1). -/
theorem raiseFault_keeps (s : State) (k : FaultKind) (c : Option Cylinder) (x : Option Slot) (ho : k ≠ .overspeed)
    (hw : k ≠ .injectorWatch) :
    (s.raiseFault k c x).pool = s.pool ∧ (s.raiseFault k c x).drivers = s.drivers
      ∧ (s.raiseFault k c x).limits = s.limits := by
  unfold raiseFault reactUnmasked
  split <;> cases k <;> simp_all [react]

/-- A fault raised is pending, and every other kind is as it was (R140, R141). -/
theorem raiseFault_latches (s : State) (k : FaultKind) (c : Option Cylinder) (x : Option Slot) :
    (s.raiseFault k c x).faults.pending = s.faults.pending ||| k.mask := by
  rw [raiseFault, reactUnmasked_faults, (takeFault_faults s _).2.2]; rfl

/-! ### The order of the leaving-SYNCED notice (log 7) -/

/-- Putting a slot among others by its rank adds it and loses none. -/
theorem insertRanked_perm (t : Time) (k : Slot) (ks : List Slot) : (insertRanked t k ks).Perm (k :: ks) := by
  induction ks with
  | nil => exact .refl _
  | cons x xs ih =>
    unfold insertRanked
    split_ifs
    · exact .refl _
    · exact (ih.cons x).trans (.swap k x xs)

/-- The leaving-SYNCED notice takes every waiting record once, in whatever order. -/
theorem leavingOrder_perm (s : State) : s.leavingOrder.Perm s.waitingSlots := by
  have h (t : Time) (ks : List Slot) : (ks.foldr (insertRanked t) []).Perm ks := by
    induction ks with
    | nil => exact .refl _
    | cons k ks ih => exact (insertRanked_perm t k _).trans (ih.cons k)
  have p := List.filter_append_perm (fun k => !s.slotFinal k) s.waitingSlots
  simp only [Bool.not_not] at p
  exact ((h s.timeBase _).append_left _).trans p

end State

end Sys2Proof.Machine
end

