-- ==== Sys2Proof/Laws/Pool.lean ====
section
/-! SUPPORT. The records of the pool after each pool operation (R38, R39, R44, R45, R47, R49, R50). -/

namespace Sys2Proof.Machine

namespace Pool

/-- The records of the pool are those of the eight lists. -/
theorem mem_records (p : Pool) (r : Record) : r ∈ p.records ↔ ∃ c, r ∈ p.lists.get c := by
  simp only [records, List.mem_flatten, Eight.mem_toList]
  constructor
  · rintro ⟨l, ⟨c, rfl⟩, h⟩
    exact ⟨c, h⟩
  · rintro ⟨c, h⟩
    exact ⟨_, ⟨c, rfl⟩, h⟩

/-- A record found stands in the pool and has the slot it was sought by. -/
theorem find_some {p : Pool} {k : Slot} {r : Record} (h : p.find k = some r) : r ∈ p.records ∧ r.slot = k :=
  ⟨List.mem_of_find?_eq_some h, by simpa using List.find?_some h⟩

/-- A slot with no record found stands in no cylinder list. -/
theorem find_none {p : Pool} {k : Slot} : p.find k = none ↔ ∀ r ∈ p.records, r.slot ≠ k := by
  simp [find]

@[simp] theorem unlink_free (p : Pool) (k : Slot) : (p.unlink k).free = p.free := rfl
@[simp] theorem unlink_quarantine (p : Pool) (k : Slot) : (p.unlink k).quarantine = p.quarantine := rfl
@[simp] theorem update_free (p : Pool) (k : Slot) (f : Record → Record) : (p.update k f).free = p.free := rfl
@[simp] theorem update_quarantine (p : Pool) (k : Slot) (f : Record → Record) :
    (p.update k f).quarantine = p.quarantine := rfl
@[simp] theorem insert_free (p : Pool) (r : Record) : (p.insert r).free = p.free := rfl
@[simp] theorem insert_quarantine (p : Pool) (r : Record) : (p.insert r).quarantine = p.quarantine := rfl
@[simp] theorem push_free (p : Pool) (k : Slot) : (p.push k).free = k :: p.free := rfl
@[simp] theorem push_lists (p : Pool) (k : Slot) : (p.push k).lists = p.lists := rfl
@[simp] theorem push_records (p : Pool) (k : Slot) : (p.push k).records = p.records := rfl
@[simp] theorem push_quarantine (p : Pool) (k : Slot) : (p.push k).quarantine = p.quarantine := rfl
@[simp] theorem pop_free (p : Pool) : p.pop.free = p.free.tail := rfl
@[simp] theorem pop_lists (p : Pool) : p.pop.lists = p.lists := rfl
@[simp] theorem pop_records (p : Pool) : p.pop.records = p.records := rfl
@[simp] theorem pop_quarantine (p : Pool) : p.pop.quarantine = p.quarantine := rfl

/-- A slot unlinked leaves every record of another slot, in order (R45). -/
theorem records_unlink (p : Pool) (k : Slot) : (p.unlink k).records = p.records.filter fun r => r.slot != k := by
  simp [records, unlink, Eight.toList, Eight.map]

/-- A record changed in its place keeps the place of every record. -/
theorem records_update (p : Pool) (k : Slot) (f : Record → Record) :
    (p.update k f).records = p.records.map fun r => if r.slot = k then f r else r := by
  simp [records, update, Eight.toList, Eight.map]

/-- An insertion by offset adds one record to a list and moves none of the others (R44). -/
theorem insertByOffset_perm (r : Record) (l : List Record) : (insertByOffset r l).Perm (r :: l) := by
  induction l with
  | nil => exact List.Perm.refl _
  | cons x xs ih =>
    unfold insertByOffset
    split
    · exact List.Perm.refl _
    · exact (ih.cons x).trans (List.Perm.swap r x xs)

/-- A record put into its cylinder's list adds that record to the pool and no other (R44). -/
theorem records_insert (p : Pool) (r : Record) : (p.insert r).records.Perm (r :: p.records) := by
  have h := insertByOffset_perm r (p.lists.get r.cylinder)
  unfold records insert
  obtain ⟨free, ⟨v0, v1, v2, v3, v4, v5, v6, v7⟩, quarantine⟩ := p
  generalize r.cylinder = c at h ⊢
  revert h
  generalize insertByOffset r _ = l
  fin_cases c <;> simp only [Eight.get, Eight.set, Eight.toList, List.flatten_cons, List.flatten_nil] <;> intro h <;>
    rw [List.perm_iff_count] at h ⊢ <;> intro a <;> have ha := h a <;>
    simp only [List.count_append, List.count_cons, List.count_nil] at ha ⊢ <;> omega

/-- A record freed leaves its list, and its slot goes to the head of the free list (R50). -/
theorem freeRecord_of_find {p : Pool} {k : Slot} {r : Record} (h : p.find k = some r) :
    p.freeRecord k = (p.unlink k).push k := by
  simp [freeRecord, h]

/-- A quarantined record leaves its list for the back of the quarantine list (R47). -/
theorem quarantineRecord_of_find {p : Pool} {k : Slot} {r : Record} (h : p.find k = some r) :
    p.quarantineRecord k = { p.unlink k with quarantine := p.quarantine ++ [r] } := by
  simp [quarantineRecord, h]

end Pool
end Sys2Proof.Machine
end

