-- ==== Sys2Proof/Laws/Time.lean ====
section
/-! SUPPORT. The part brought to the time of a command (log 2), what a frame does (R155, R156, R158), and the order of the units that take an
advance (R15). -/

namespace Sys2Proof.Machine
namespace State

/-- The part brought to a time stands at that time. -/
theorem arriveWithin_timeBase (n : Nat) (t : Time) (s : State) : (arriveWithin n t s).timeBase = t := by
  induction n generalizing s with
  | zero => rfl
  | succ n ih =>
    unfold arriveWithin
    split
    · split
      · exact ih _
      · rfl
    · rfl

@[simp] theorem arrive_timeBase (s : State) (t : Time) : (s.arrive t).timeBase = t := arriveWithin_timeBase _ t s

/-- The part brought to the time at which it stands is as it was. -/
theorem arrive_now (s : State) : s.arrive s.timeBase = s := by
  unfold arrive Config.timerFuel arriveWithin
  split <;> simp

/-- A frame of a command while the port waits for SEL_N to rise: it is ignored, and the port takes the next one (R155). -/
theorem onFrame_ignored (s : State) (t : Time) (l : Link) (n : CommandName) (act : State → State × Status × Data)
    (h : ((s.arrive t).links.get l).ignoring = true) :
    s.onFrame t l n act = (s.arrive t).setLink l { (s.arrive t).links.get l with ignoring := false } := by
  simp [onFrame, h]

/-- A frame of a command the link may not carry: NOT_PERMITTED, and nothing else (R158). -/
theorem onFrame_refused (s : State) (t : Time) (l : Link) (n : CommandName) (act : State → State × Status × Data)
    (h : ((s.arrive t).links.get l).ignoring = false) (hp : permitted n l = false) :
    s.onFrame t l n act = (s.arrive t).respond l .notPermitted (commandCode n) 0 := by
  simp [onFrame, h, hp]

/-- A frame of a command the link may carry: the command's effect, and its response (R156, R158). -/
theorem onFrame_taken (s : State) (t : Time) (l : Link) (n : CommandName) (act : State → State × Status × Data)
    (h : ((s.arrive t).links.get l).ignoring = false) (hp : permitted n l = true) :
    s.onFrame t l n act = (act (s.arrive t)).1.respond l (act (s.arrive t)).2.1 (commandCode n) (act (s.arrive t)).2.2 := by
  simp [onFrame, h, hp]

end State

/-- A frame that fails one of the first three tests: the refusal, on a port that takes frames (R158). -/
theorem execRefusedFrame_refused (t : Time) (l : Link) (f : Frame) (s : State) (status : Status) (echo : Byte)
    (h : ((s.arrive t).links.get l).ignoring = false) (hf : frameRefusal f = some (status, echo)) :
    execRefusedFrame t l f s = .next ((s.arrive t).respond l status echo 0) := by
  simp [execRefusedFrame, hf, h]

/-- A frame that passes them: what its command does (log 12). -/
theorem execRefusedFrame_passed (t : Time) (l : Link) (f : Frame) (s : State) (h : frameRefusal f = none) :
    execRefusedFrame t l f s = runCarried (readFrame t l f) s := by
  simp [execRefusedFrame, h]

/-- A turn for a block that has not yet taken the advance: it takes it, and is done. -/
theorem edgeTurn_acts (adv : Advance) (s : State) (left : List Block) (x : Block) (h : x ∈ left) :
    State.edgeTurn adv (s, left) (.acts x) = (s.blockStep adv x, left.erase x) := by
  simp [State.edgeTurn, h]

/-- A second turn for a block changes nothing. -/
theorem edgeTurn_done (adv : Advance) (s : State) (left : List Block) (x : Block) (h : x ∉ left) :
    State.edgeTurn adv (s, left) (.acts x) = (s, left) := by
  simp [State.edgeTurn, h]

/-- No fault waits after an advance has been taken (R140). -/
theorem takeAdvance_raised (s : State) (turns : List EdgeTurn) (adv : Advance) :
    (s.takeAdvance turns adv).faults.raised = [] := State.takeRaised_raised _

end Sys2Proof.Machine
end

