-- ==== Sys2Proof/Tests/Slice0.lean ====
section
/-! SUPPORT. The model's own tests: the check of WellFormed, frames written out from the spec, one-step tests with the numbers of the spec's
worked sequences, and for each statement with hypotheses a state and operands that meet them. -/

namespace Sys2Proof.Tests

set_option Elab.async false
open Sys2Proof.Machine

/-! ### Small states -/

/-- The state an outcome answers. -/
def stateOf (o : Host.Outcome State Fault Refusal) : State :=
  match o with
  | .next s => s
  | _ => State.reset

/-- Every input line at rest. -/
def rest : ResetLines :=
  { stageFaultA := false, stageFaultB := false, fuelSelected := false, thermalSelected := false, supervisorSelected := false }

/-- The overspeed check first, then the release event, the start decisions and the marks. -/
def order : List EdgeTurn := [.acts .limits, .acts .release]

/-- The part after COMMIT_CONFIG of the defaults at time 1,000. -/
def ready : State := stateOf (exec (.commitConfig 1000 .supervisor) State.reset)

/-- `ready` with the clock in a sync state at a tooth accepted at time 1,000, in cycle 40. -/
def turning (x : SyncState) (tooth : Nat) (revolution : Fin 2) (p : Option Nat) : State :=
  ready.setClock
    { ready.clock with
      sync := x, lastTooth := 1000, period := p, tooth := tooth, revolution := revolution
      lastAngle := 96 * tooth + 5760 * revolution.val, cycle := 40, stall := some 201000 }

/-- SYNCED at cycle angle 4,416, P 600. -/
def synced : State := turning .synced 46 0 (some 600)

/-- A record of `ready`, in a state. -/
def record (slot : Slot) (o : Owner) (tag : Byte) (c : Cylinder) (k : Kind) (offset : Int) (d p n : Nat) (phase : Phase) :
    Record :=
  let q : PlanInput :=
    { owner := o, cylinder := c, kind := k, offset := offset, duration := d, priority := p, exclude := none }
  { ready.filledRecord slot q d tag false n true with phase := phase }

/-- A state that holds records, every other slot free. -/
def holding (s : State) (rs : List Record) : State :=
  s.setPool (rs.foldl Pool.insert { s.pool with free := allSlots.filter fun k => !(rs.any fun r => r.slot == k) })

/-- The fuel MAIN of cylinder 3 in slot 5 (section 6.8). -/
def main3 (phase : Phase) : Record := record 5 .fuel 17 2 .main (-96) 1800 12 0 phase

/-- The thermal AFTER of cylinder 3 in slot 11 (section 6.8). -/
def after3 (phase : Phase) : Record := record 11 .thermal 9 2 .after 480 600 5 2 phase

def fields : FiringFields := { duration := 1800, shortened := false, final := false }

/-- Both records PENDING. -/
def placed : State := holding synced [main3 .pending, after3 .pending]

/-- The MAIN RELEASED with a planned start, the AFTER PENDING. -/
def waiting (planned : Time) (late : Bool) : State :=
  (holding synced [main3 (.released fields planned), after3 .pending]).setBank .bankA
    { state := .idle, waiting := [{ slot := 5, late := late }], stageFault := false }

/-- The MAIN's pulse, started at 1,000. -/
def pulse : RunningPulse :=
  { slot := 5, ends := 2800, cycle := 40, outcome := .fired, peakSeen := false, noRise := false, deadline := some 1300 }

/-- The MAIN FIRING on bank A, the AFTER RELEASED and waiting. -/
def firing (p : RunningPulse) : State :=
  let s := holding synced [main3 (.firing fields 1000), after3 (.released { fields with duration := 600 } 3000)]
  s.setDrivers
    { s.drivers with
      bankA := { state := .firing p, waiting := [{ slot := 11, late := false }], stageFault := false }, fire := 0b100 }

/-- A PLACE request of the fuel link. -/
def request (cylinder : Byte) (kind : BitVec 4) (offset : Int) (duration : Word16) (priority : Byte) : PlaceRequest :=
  { cylinder := cylinder, kind := kind, report := true, stampPresent := false, offset := BitVec.ofInt 16 offset,
    duration := duration, priority := priority, repeats := 0, tag := 19, stamp := 0 }

/-- A state with a request waiting on a link. -/
def staged (s : State) (o : Owner) (x : Staged) : State := s.setPort o { state := .live, queue := [x], watermark := 8 }

/-! ### WellFormed, frames and the table's words -/

/-- A frame that passes the tests of R158 is no refused frame: the check refuses the term. -/
theorem test_wellFormed_refuses_good_frame :
    (Instr.refusedFrame 0 .fuel { edges := 96, bits := 0x010000000000000000000023 }).wellFormed = false := by decide +kernel

/-- A frame of 64 edges is a refused frame. -/
theorem test_wellFormed_accepts_short_frame :
    (Instr.refusedFrame 0 .fuel { edges := 64, bits := 0 }).wellFormed = true := by decide +kernel

/-- The running values of the example of R157. -/
theorem test_frameCheck_example :
    [1, 0, 0, 0, 0, 0, 0, 0, 0, 0, 0].foldl (fun acc b => acc ++ [checkByte (acc.getLastD 0xFF#8) b]) ([] : List Byte)
      = [0xAB, 0x32, 0xE0, 0x10, 0xBA, 0x1F, 0x2C, 0x5B, 0x98, 0x45, 0x23] := by decide +kernel

/-- The NOP frame of R157. -/
theorem test_decode_nop : readFrame 7 .thermal { edges := 96, bits := 0x010000000000000000000023 } = .nop 7 .thermal := by
  decide +kernel

/-- A frame with its check byte, bytes 0 to 10 as written. -/
def checked (body : Body) : Frame := { edges := 96, bits := body ++ frameCheck body }

/-- READ_RECORD 39, part 2: bytes 1 and 2 (R161). -/
theorem test_decode_readRecord :
    readFrame 7 .fuel (checked 0x0527020000000000000000) = .readRecord 7 .fuel 39 2 := by decide +kernel

/-- SET_MARK: mask, signed offset −96, mode (R161). -/
theorem test_decode_setMark :
    readFrame 7 .fuel (checked 0x0B04FFA001000000000000) = .setMark 7 .fuel 4 (BitVec.ofInt 16 (-96)) 1 := by decide +kernel

/-- PLACE: cylinder, flags and kind, offset, duration, priority, repeat, tag, stamp (R163). -/
theorem test_decode_place :
    readFrame 7 .fuel (checked 0x1203C2FFA007080A021129)
      = .place 7 .fuel
        { cylinder := 3, kind := 2, report := true, stampPresent := true, offset := BitVec.ofInt 16 (-96), duration := 1800,
          priority := 10, repeats := 2, tag := 17, stamp := 41 } := by decide +kernel

/-- AMEND: slot, tag, flags, offset, duration (R163). -/
theorem test_decode_amend :
    readFrame 7 .thermal (checked 0x13050902FFA00258000000)
      = .amend 7 .thermal
        { slot := 5, tag := 9, offsetPresent := false, durationPresent := true, offset := BitVec.ofInt 16 (-96),
          duration := 600 } := by decide +kernel

/-- SET_LIMIT BUDGET 2,500 (R161). -/
theorem test_decode_setLimit :
    readFrame 7 .supervisor (checked 0x200209C400000000000000) = .setLimit 7 .supervisor 2 2500 := by decide +kernel

/-- CONFIG_WRITE CAM_WINDOW 10,560, 11,039 (R165, R167). -/
theorem test_decode_configWrite :
    readFrame 7 .supervisor (checked 0x2C0529402B1F0000000000)
      = .configWrite 7 .supervisor 5 0x29402B1F0000000000 := by decide +kernel

/-- A code outside the table of section 9.5 names no command. -/
theorem test_decode_unknown :
    judgeFrame (checked 0x0D00000000000000000000) = .badCommand ∧ judgeFrame (checked 0x2F00000000000000000000) = .badCommand
      ∧ judgeFrame (checked 0x1500000000000000000000) = .badCommand := by decide +kernel

/-- The table gives no row any bits. -/
theorem test_decodeTableWord : decodeTableWord 8 1 = none ∧ State.reset.withFetchWord 8 1 = State.reset := by decide +kernel

/-! ### One step, with the numbers of the spec's worked sequences -/

/-- Eleven 00h bytes: the check of the pending response after a power-on reset (R156, R157). -/
theorem test_reset_response : State.resetResponse = formResponse .none 0 0 := by decide +kernel

/-- The SDO line after a power-on reset: status NONE 00h, the last bits of the check A5h, low after the 96th bit, floating with SEL_N high
(R155, R156, section 9.1). -/
theorem test_sdo :
    let line := State.reset.sdo .fuel
    line none = none ∧ (line (some 0), line (some 88), line (some 89)) = (some false, some true, some false)
      ∧ (line (some 95), line (some 96)) = (some true, some false) := by decide +kernel

/-- COMMIT_CONFIG of the defaults (10.5): OK, N 6; TDC(3) 4,928, Pw 333, spans 44 and 12 (2.8). -/
theorem test_commitConfig :
    (ready.links.get .supervisor).response.data = 0x010600000000000000 ∧ (ready.table.get 2).tdc = 4928
      ∧ ready.geometry = { order := [0, 4, 2, 5, 1, 3], pw := 333, dwellSpan := 44, recoverySpan := 12 } := by decide +kernel

/-- COMMIT_CONFIG of the cam window 10,560 to 10,500 (10.5): CONFIG_INCONSISTENT, item 5. -/
theorem test_commitConfig_inconsistent :
    let s := stateOf (exec (.configWrite 0 .supervisor 5 0x294029040000000000) State.reset)
    let r := ((stateOf (exec (.commitConfig 0 .supervisor) s)).links.get .supervisor).response
    r.status = .configInconsistent ∧ r.data = 0x050000000000000000 := by decide +kernel

/-- CRANK_EDGE before a commit is ignored (10.5). -/
theorem test_crankEdge_ignored :
    stateOf (exec (.crankEdge 400 order) State.reset) = State.reset.setTimeBase 400 := by decide +kernel

/-- CRANK_EDGE: a discarded edge, then a normal tooth, P 5,100 (1.7). -/
theorem test_crankEdge_filter :
    let s := turning .gapFound 0 0 (some 5200)
    let u := stateOf (exec (.crankEdge 2100 order) s)
    let w := (stateOf (exec (.crankEdge 6100 order) u)).clock
    u = s.setTimeBase 2100 ∧ w.tooth = 1 ∧ w.lastAngle = 96 ∧ w.period = some 5100 ∧ w.rpm = 196 := by decide +kernel

/-- A tooth with SYNC_ERROR, severity 3, and OVERSPEED, severity 4: OVERSPEED is held in either order, with follow count 0 when it is offered
second and 1 when it is offered first (R140, R144). -/
theorem test_crankEdge_two_faults :
    let s := turning .gapFound 57 0 (some 600)
    let capture (o : List EdgeTurn) :=
      (stateOf (exec (.crankEdge 1300 o) s)).faults.capture.map fun c => (c.record.kind, c.follow)
    capture [] = some (.overspeed, 0) ∧ capture [.acts .limits, .fault .limits] = some (.overspeed, 1) := by decide +kernel

/-- CAM_EDGE 2,400 µs after tooth 51 with P 5,000 (1.7): SYNCED, revolution 1, 10,656. -/
theorem test_camEdge :
    let c := (stateOf (exec (.camEdge 3400) (turning .gapFound 51 0 (some 5000)))).clock
    c.sync = .synced ∧ c.revolution = 1 ∧ c.lastAngle = 10656 ∧ c.cam.good = true := by decide +kernel

/-- READ_ANGLE 3,300 µs after tooth 51 with P 5,000 (1.7): SYNCED, 10,719, cycle 40, P 5,000, rpm 200. -/
theorem test_readAngle :
    ((stateOf (exec (.readAngle 4300 .fuel) (turning .synced 51 1 (some 5000)))).links.get .fuel).response.data
      = (3#2 ++ 10719#14 ++ 40#16 ++ 5000#20 ++ 200#20) := by decide +kernel

/-- STALL_EXPIRY at the time the timer was armed for (R7, R8). -/
theorem test_stallExpiry :
    let c := (stateOf (exec (.stallExpiry 201000) synced)).clock
    c.sync = .stopped ∧ c.period = none ∧ c.stall = none ∧ c.lastTooth = 1000 ∧ c.cycle = 40 := by decide +kernel

/-- CRANK_EDGE at 4,512 releases slot 5: d 320, P 600, T 2,000 µs after the tooth (6.8). -/
theorem test_crankEdge_releases :
    let s := stateOf (exec (.crankEdge 1600 order) placed)
    (s.pool.find 5).map (fun r => r.phase) = some (.released fields 3600) ∧ (s.table.get 2).released = 1800
      ∧ s.drivers.bankA.waiting = [{ slot := 5, late := false }] := by decide +kernel

/-- START_DECISION at the planned start: FIRE3 asserted, the end 1,800 µs later, the deadline 300 µs later (6.8). -/
theorem test_startDecision :
    let s := stateOf (exec (.startDecision 1000 .bankA) (waiting 1000 false))
    s.drivers.bankA.state = .firing pulse ∧ s.drivers.fire = 0b100 := by decide +kernel

/-- START_DECISION 147 µs late: skipped, SLIP_SKIP (6.8). -/
theorem test_startDecision_skips :
    let s := stateOf (exec (.startDecision 1000 .bankA) (waiting 853 true))
    s.drivers.bankA.state = .idle ∧ (s.pool.find 5).map (fun r => r.phase) = some .pending
      ∧ s.faultPending .slipSkip = true := by decide +kernel

/-- END_OF_PULSE: fired total 1,800, the carry entry, RECOVERY for 40 µs (6.8). -/
theorem test_endOfPulse :
    let s := stateOf (exec (.endOfPulse 2800 .bankA) (firing { pulse with peakSeen := true }))
    s.drivers.bankA.state = .recovery 2840 ∧ s.drivers.fire = 0 ∧ (s.table.get 2).fired = 1800
      ∧ (s.table.get 2).carry = some { offset := -96, duration := 1800 } := by decide +kernel

/-- PEAK_EDGE, then PEAK_DEADLINE: no NO_RISE (R116, R117). -/
theorem test_peakEdge :
    let s := stateOf (exec (.peakDeadline 1300 .bankA) (stateOf (exec (.peakEdge 1299 .bankA) (firing pulse))))
    s.faults.pending = 0 ∧ (s.table.get 2).streak = 0 := by decide +kernel

/-- PEAK_DEADLINE without a peak at streak 2: NO_RISE, INJECTOR_WATCH, streak 3, the enable cleared (8.6). -/
theorem test_peakDeadline :
    let s := firing pulse
    let u := stateOf (exec (.peakDeadline 1300 .bankA) (s.setCylinder 2 { s.table.get 2 with streak := 2 }))
    (u.table.get 2).streak = 3 ∧ u.faults.pending = 0b10000001000 ∧ u.enabled 2 = false := by decide +kernel

/-- RECOVERY_END: the waiting head that is due starts at once, 97 µs late, SLIPPED (6.8). -/
theorem test_recoveryEnd :
    let s := waiting 903 false
    let u := stateOf (exec (.recoveryEnd 1000 .bankA) (s.setBank .bankA { s.drivers.bankA with state := .recovery 1000 }))
    u.drivers.bankA.state = .firing { pulse with outcome := .slipped } := by decide +kernel

/-- STAGE_FAULT_ASSERTION truncates the running pulse; the fault names its cylinder and slot (R118). -/
theorem test_stageFaultAssertion :
    let s := stateOf (exec (.stageFaultAssertion 1200 .bankA) (firing pulse))
    s.drivers.fire = 0 ∧ (s.table.get 2).fired = 200 ∧ (s.table.get 2).carry = none
      ∧ s.faults.capture.map (fun c => (c.record.cylinder, c.record.slot)) = some (some 2, some 5) := by decide +kernel

/-- STAGE_FAULT_NEGATION raises nothing (R118). -/
theorem test_stageFaultNegation :
    stateOf (exec (.stageFaultNegation 1000 .bankB) ready) = ready := by decide +kernel

/-- POWER_ON_RESET clears what stood. -/
theorem test_powerOnReset : stateOf (exec (.powerOnReset rest) (firing pulse)) = State.reset := by decide +kernel

/-- The bank A records of section 5.15. -/
def example515 : State :=
  let s := holding synced
    [record 4 .fuel 28 0 .main (-96) 1800 12 0 .pending, record 6 .fuel 29 2 .main (-96) 1800 12 0 .pending,
     record 8 .fuel 30 1 .main (-96) 1800 12 0 .pending, record 9 .fuel 31 1 .after 480 600 4 0 .pending]
  staged (s.setPool { s.pool with free := allSlots.filter fun k => 12 ≤ k.val && k.val ≤ 31 }) .thermal
    (.place { request 2 4 600 1500 9 with tag := 3 })

/-- TAKE_PLACE of section 5.15: slot 9 displaced and filled again, the entries of both logs. -/
theorem test_takePlace :
    let s := stateOf (exec (.takePlace 1000) example515)
    (s.pool.lists.get 1).map (fun r => (r.slot, r.offset, r.start)) = [(8, -96, 8672), (9, 640, 9408)]
      ∧ s.links.fuel.log = [.displaced 9 31 1 .after false .conflict]
      ∧ s.links.thermal.log = [.placed 9 3 { priority := true, duration := false, offset := true, budget := false } false 1 1500]
      ∧ s.pool.free.head? = some 12 := by decide +kernel

/-- TAKE_PLACE of the fuel MAIN clamp of section 5.16: duration 1,600, budget-clamped. -/
theorem test_takePlace_budget :
    let s := holding synced [record 1 .fuel 1 0 .pre (-400) 300 12 0 .pending, record 2 .fuel 2 0 .after 480 600 12 0 .pending]
    let s := staged (s.setLimits { s.limits with budget := 2500 }) .fuel (.place (request 1 2 (-96) 1800 12))
    (stateOf (exec (.takePlace 1000) s)).links.fuel.log
      = [.placed 0 19 { priority := false, duration := false, offset := false, budget := true } false 0 1600] := by
  decide +kernel

/-- TAKE_AMEND moves a record to its place by offset and keeps its other fields (R98). -/
theorem test_takeAmend :
    let a : AmendRequest :=
      { slot := 11, tag := 9, offsetPresent := true, durationPresent := false, offset := 640, duration := 0 }
    let s := staged placed .thermal (.amend a)
    ((stateOf (exec (.takeAmend 1000) s)).pool.lists.get 2).map (fun r => (r.slot, r.start, r.duration, r.repeats, r.intact))
      = [(5, 4832, 1800, 0, true), (11, 5568, 600, 2, true)] := by decide +kernel

/-- TAKE_AMEND of the duration alone on a record whose stored start angle has a flipped bit: the start angle and the place stay (R45, R98). -/
theorem test_takeAmend_duration :
    let a : AmendRequest := { slot := 11, tag := 9, offsetPresent := false, durationPresent := true, offset := 0, duration := 400 }
    let s := staged (holding synced [main3 .pending, { after3 .pending with start := 5409 }]) .thermal (.amend a)
    ((stateOf (exec (.takeAmend 1000) s)).pool.lists.get 2).map (fun r => (r.slot, r.start, r.duration, r.intact))
      = [(5, 4832, 1800, true), (11, 5409, 400, true)] := by decide +kernel

/-- TAKE_WITHDRAW frees the slot onto the head of the free list (R50, R99). -/
theorem test_takeWithdraw :
    let s := stateOf (exec (.takeWithdraw 1000) (staged placed .fuel (.withdraw { slot := 5, tag := 17 })))
    s.pool.free.head? = some 5 ∧ s.links.fuel.log = [.withdrawn 5 17] := by decide +kernel

/-- CUT_NOW of section 7.7, here 190 µs into the pulse: one pulse truncated, one record suppressed. -/
theorem test_cutNow :
    let s := stateOf (exec (.cutNow 1190 .supervisor 0b100) (firing pulse))
    s.links.supervisor.response.data = 0x010100000000000000 ∧ s.drivers.fire = 0 ∧ s.limits.enables = 0xFB
      ∧ (s.table.get 2).fired = 190 ∧ (s.pool.find 11).map (fun r => (r.phase, r.repeats)) = some (.pending, 1) := by
  decide +kernel

/-- SET_PORT_STATE LIVE with an empty queue and watermark 6 (4.8). -/
theorem test_setPortState :
    ((stateOf (exec (.setPortState 1000 .fuel 3 6) ready)).links.get .fuel).response.data = 0x030600000000000000 := by
  decide +kernel

/-- PLACE on a QUIET port (9.9): PORT_QUIET, staging count 0, nothing queued. -/
theorem test_place_quiet :
    let s := stateOf (exec (.place 1000 .fuel (request 1 2 (-96) 1800 12)) ready)
    s.links.fuel.response.status = .portQuiet ∧ s.links.fuel.response.echo = 0x12 ∧ s.staging = ready.staging := by
  decide +kernel

/-- CUT_NOW on the fuel link (9.9): NOT_PERMITTED. -/
theorem test_cutNow_notPermitted :
    (stateOf (exec (.cutNow 1000 .fuel 0xFF) ready)).links.fuel.response = formResponse .notPermitted 0x22 0 := by decide +kernel

/-- A frame of 64 edges (9.9): FRAME_LENGTH, echo 00h. -/
theorem test_refusedFrame :
    (stateOf (exec (.refusedFrame 1000 .fuel { edges := 64, bits := 0 }) ready)).links.fuel.response
      = formResponse .frameLength 0 0 := by decide +kernel

/-- A frame that passes tests 1 to 3, here the NOP frame of R157, acts as its command (log 12). -/
theorem test_refusedFrame_nop :
    (stateOf (exec (.refusedFrame 1000 .fuel { edges := 96, bits := 0x010000000000000000000023 }) ready)).links.fuel.response
      = formResponse .ok 1 0 := by decide +kernel

/-- SCRUB_POOL of section 3.13: slot 39 first, then slot 7. -/
theorem test_scrubPool :
    let q := [record 39 .fuel 40 1 .after 480 600 5 0 .pending, record 7 .fuel 41 4 .after 480 600 5 0 .pending]
    let s := ready.setPool { free := [34, 35, 36, 37, 38], lists := Eight.all [], quarantine := q }
    let u := stateOf (exec (.scrubPool 1000 .supervisor) s)
    u.pool.free = [7, 39, 34, 35, 36, 37, 38] ∧ u.links.supervisor.response.data = 0x020000000000000000 := by decide +kernel

/-- READ_CAPTURE of section 8.6: INJECTOR_WATCH, severity 4, cylinder 2, slot 7, cycle 814, time 50,161,700, follow count 1. -/
theorem test_readCapture :
    let r : FaultRecord := { kind := .injectorWatch, cylinder := some 1, slot := some 7, cycle := 814, time := 50161700 }
    let s := ready.setFaults { ready.faults with capture := some { record := r, follow := 1 } }
    (stateOf (exec (.readCapture 1000 .supervisor) s)).links.supervisor.response.data = 0xB207032E02FD682401 := by
  decide +kernel

/-- The firing report of a cut pulse of section 7.7 in the layout of section 9.8. -/
theorem test_firing_layout :
    (LogEntry.firing
      { slot := 14, tag := 60, cylinder := 5, kind := .main, carried := false, cycle := 300, outcome := .truncatedCut,
        shortened := false, noRise := false, start := some 20000000, duration := 1790, repeats := 0, freed := false }).data
      = (1#1 ++ 4#4 ++ 5#3 ++ 0#2 ++ 14#6 ++ 60#8 ++ 6#4 ++ 0#2 ++ 1#2 ++ 0xFE#8 ++ 0#8 ++ 0x2C#8 ++ 0x2D00#16) := by
  decide +kernel


/-! ### Witnesses: for each statement, a state and operands that meet its hypotheses, with each clause at a boundary -/

/-- Whether an outcome is a next state. -/
def completes (o : Host.Outcome State Fault Refusal) : Bool :=
  match o with
  | .next _ => true
  | _ => false

theorem next_of_completes {o : Host.Outcome State Fault Refusal} (h : completes o = true) : ∃ s', o = .next s' := by
  cases o <;> simp_all [completes]

theorem ne_of_none {α β : Type} {x : Option α} {P : α → β → Prop} (h : x = none) : ∀ a b, x = some a → P a b := by
  intro a b h'; simp [h] at h'

theorem not_firing {x : BankState} (h : x = .idle) : ∀ p, x ≠ .firing p := by simp [h]

theorem not_recovery {x : BankState} (h : x = .idle) : ∀ e, x ≠ .recovery e := by simp [h]

/-- A step of each kind: a command in front, a timer due, a request waiting, nothing waiting. -/
theorem witness_StepRunsFrontCommand :
    (ready.setPending [.nop 1000 .fuel, .readTime 1001 .fuel]).pending = .nop 1000 .fuel :: [.readTime 1001 .fuel] := rfl

theorem witness_EmptyQueueIdles :
    (ready.pending = [] ∧ ready.nextTimer = none ∧ ready.nextTake = none)
      ∧ ((synced.setTimeBase 201000).pending = [] ∧ (synced.setTimeBase 201000).nextTimer = some (.stall, 0))
      ∧ ((synced.setTimeBase 200999).nextTimer = some (.stall, 1) ∧ (synced.setTimeBase 200999).nextTake = none)
      ∧ (example515.pending = [] ∧ example515.nextTimer = some (.stall, 200000) ∧ example515.nextTake ≠ none) := by
  decide +kernel

/-- With no timer armed, with the stall timer due at the time and not before it, and with the peak deadline due one microsecond before it. -/
theorem witness_CommandTakenAtItsTime :
    ((Instr.nop 1000 .fuel).takenAt = some 1000 ∧ ∃ s', exec (.nop 1000 .fuel) ready = .next s')
      ∧ ready.nextTimer = none
      ∧ (synced.nextTimer = some (.stall, 200000) ∧ ((201000 : Time) - synced.timeBase).toNat ≤ 200000)
      ∧ ((firing pulse).nextTimer = some (.peakDeadline .bankA, 300) ∧ 300 < ((1301 : Time) - (firing pulse).timeBase).toNat)
      ∧ (firing pulse).armedFor (.peakDeadline .bankA) 1300 ∧ (firing pulse).armedFor (.pulseEnd .bankA) 2800 :=
  ⟨⟨rfl, next_of_completes (by decide +kernel)⟩, by decide +kernel, by decide +kernel, by decide +kernel,
    ⟨pulse, by decide +kernel, rfl⟩, ⟨pulse, by decide +kernel, rfl⟩⟩

theorem witness_PowerOnReset :
    (rest.stageFaultA = false ∧ rest.stageFaultB = false) ∧ ({ rest with stageFaultB := true } : ResetLines).stageFaultB = true :=
  ⟨⟨rfl, rfl⟩, rfl⟩

theorem firing_bounded : (firing pulse).bounded := by
  refine ⟨?_, ?_, ?_, ?_, ?_, ?_⟩
  case refine_5 => rw [show (firing pulse).faults.capture = none by decide +kernel]; simp
  all_goals decide +kernel

theorem firing_rangesSound : (firing pulse).rangesSound := by
  refine ⟨?_, ?_, ?_, ?_, ?_⟩ <;> decide +kernel

/-- The state in which slot 5 is FIRING and slot 11 RELEASED meets every premise of the invariants, and a step from it completes. -/
theorem witness_invariants :
    let s := firing pulse
    (s.pool.partitioned ∧ s.timelineSound ∧ s.clock.sync = .synced ∧ s.overspeedSuppression = false) ∧ s.clockSound = true
      ∧ s.carrySound ∧ (s.pool.sorted ∧ s.withinCap) ∧ s.bounded ∧ (∀ l, s.responseSound l) ∧ ∃ s', step s = .next s' :=
  ⟨by decide +kernel, by decide +kernel, by decide +kernel, by decide +kernel, firing_bounded,
    fun l => by cases l <;> decide +kernel, next_of_completes (by decide +kernel)⟩

/-- The same state has every item, record and total in range, in order of offset; a command may be taken now, and 300 microseconds may pass. -/
theorem witness_BoundsKept_CylinderListsWithinCap :
    let s := firing pulse
    s.rangesSound ∧ (s.pool.partitioned ∧ s.budgetSound ∧ s.totalsSound) ∧ (s.faults.raised = [] ∧ s.pool.ordered ∧ s.pool.ascending ∧ s.outstanding 2 = 2400)
      ∧ ((∀ t, (Instr.cutNow 1000 .supervisor 4).takenAt = some t → t = s.timeBase)
        ∧ ∃ s', exec (.cutNow 1000 .supervisor 4) s = .next s')
      ∧ ∀ k d, s.nextTimer = some (k, d) → ((1300 : Time) - s.timeBase).toNat ≤ d :=
  ⟨firing_rangesSound, by decide +kernel,
    by decide +kernel, ⟨fun t h => by cases h; decide +kernel, next_of_completes (by decide +kernel)⟩, fun k d h => by
      rw [show (firing pulse).nextTimer = some (.peakDeadline .bankA, 300) by decide +kernel] at h
      cases h; decide +kernel⟩

theorem witness_ReleasedOnlyWhenAllowed_noneReleased :
    ready.timelineSound ∧ ready.noneReleased ∧ ∃ s', step ready = .next s' :=
  ⟨by decide +kernel, by decide +kernel, next_of_completes (by decide +kernel)⟩

/-- The clause of the interpolated angle, at the last tooth before the gap in both states. -/
theorem witness_ClockSoundKept :
    (turning .gapFound 57 0 (some 600)).clockSound = true ∧ (turning .synced 57 1 (some 600)).clockSound = true := by
  decide +kernel

theorem witness_FrameRoundTrip :
    let c := Instr.place 7 .fuel (request 3 2 (-96) 1800 10)
    c.takenAt = some 7 ∧ c.sender = some .fuel ∧ (writeFrame c).isSome = true := by decide +kernel

theorem witness_OneFlippedBitRefused :
    judgeFrame { edges := 96, bits := 0x010000000000000000000023 } = .names .nop ∧ (0 < 96 ∧ 95 < 96) := by decide +kernel

/-- `ready` with one link's SEL_N found low at the release of RESET_N. -/
def deaf (l : Link) : State := ready.setLink l { ready.links.get l with ignoring := true }

theorem witness_LinkPortTurnsAway :
    let good := Instr.clearStaging 1000 .supervisor
    let bad := Instr.refusedFrame 1000 .fuel { edges := 0, bits := 0 }
    (bad.takenAt = some 1000 ∧ bad.sender = some .fuel
        ∧ (((deaf .fuel).arrive 1000).links.get .fuel).ignoring = true)
      ∧ (good.takenAt = some 1000 ∧ good.sender = some .supervisor
        ∧ writePayload good = some (.clearStaging, 0) ∧ (ready.arrive 1000).listens .supervisor
        ∧ 0x10 ≤ (commandCode .clearStaging).toNat ∧ (commandCode .withdraw).toNat ≤ 0x14)
      ∧ (writePayload (.setLimit 1000 .thermal 5 16) = some (.setLimit, 0x05001000000000000000)
        ∧ (ready.arrive 1000).listens .thermal ∧ 0x20 ≤ (commandCode .setLimit).toNat) := by decide +kernel

/-- 95 and 97 edges, a wrong check, the codes 0Dh and 00h, and the frame of a NOP. -/
theorem witness_RefusedFrameAnswered :
    (ready.arrive 1000).listens .fuel
      ∧ ({ edges := 97, bits := 0 } : Frame).edges ≠ 96
      ∧ (let f : Frame := { edges := 96, bits := 0 }
        f.check ≠ frameCheck f.body)
      ∧ (let f := checked 0x0D00000000000000000000
        f.edges = 96 ∧ f.check = frameCheck f.body ∧ f.code.toNat = 0x0D)
      ∧ (let f := checked 0x0C00000000000000000000
        f.edges = 96 ∧ f.check = frameCheck f.body ∧ 1 ≤ f.code.toNat ∧ f.code.toNat ≤ 0x0C) := by decide +kernel

/-- The links take frames: the one hypothesis of NopAnswersOk, FlagCommands, SetLimitAndEnableMask and FaultUnitCommands, and the first of the
other statements about frames. -/
theorem witness_listens :
    (ready.arrive 1000).listens .fuel ∧ (ready.arrive 1000).listens .thermal ∧ (ready.arrive 1000).listens .supervisor := by
  decide +kernel

theorem witness_ReadTimeAndStatus :
    (ready.arrive 1000).listens .thermal ∧ Link.thermal = Owner.thermal.link
      ∧ (4 : Byte) ≠ 1 ∧ ¬ ((4 : Byte) = 2 ∧ Link.thermal ≠ .supervisor) ∧ ¬ ((4 : Byte) = 3 ∧ Link.thermal = .supervisor) := by
  decide +kernel

theorem witness_ReadAngle :
    ((ready.arrive 1000).listens .fuel ∧ (ready.arrive 1000).clockSound = true ∧ (ready.arrive 1000).clock.sync = .stopped)
      ∧ (let s := (turning .synced 57 1 (some 600)).arrive 3000
        s.listens .fuel ∧ s.clockSound = true ∧ s.clock.sync = .synced ∧ s.clock.tooth = 57)
      ∧ (let s := (turning .gapFound 0 0 (some 600)).arrive 1000
        s.clockSound = true ∧ s.clock.sync = .gapFound)
      ∧ (let s := (turning .hunt 0 0 none).arrive 1000
        s.clockSound = true ∧ s.clock.sync = .hunt) := by decide +kernel

/-- A quarantined record in slot 39, a PENDING one in slot 11, a FIRING one in slot 5, a RELEASED one, a free slot 0, slot 40. -/
theorem witness_ReadRecord :
    let s := (firing pulse).arrive 1000
    let q := s.setPool { s.pool with quarantine := [record 39 .fuel 1 2 .pre (-400) 300 8 0 .pending] }
    (s.listens .fuel ∧ 39 < (40 : Byte).toNat)
      ∧ ((0 : Slot).val = (0 : Byte).toNat ∧ s.pool.find 0 = none ∧ (s.pool.quarantine.find? fun r => r.slot == 0) = none)
      ∧ s.pool.find 5 = some (main3 (.firing fields 1000))
      ∧ s.pool.find 11 = some (after3 (.released { fields with duration := 600 } 3000))
      ∧ ((placed.arrive 1000).pool.find 11 = some (after3 .pending))
      ∧ (q.pool.find 39 = none ∧ (39 : Slot).val = (39 : Byte).toNat
        ∧ (q.pool.quarantine.find? fun r => r.slot == 39) = some (record 39 .fuel 1 2 .pre (-400) 300 8 0 .pending)) := by
  decide +kernel

theorem witness_ReadCylinder :
    let s := placed.arrive 1000
    let carry := (s.setCylinder 7 { s.table.get 7 with carry := some { offset := -96, duration := 1800 } }).arrive 1000
    s.listens .fuel ∧ (∀ c : Cylinder, (s.pool.lists.get c).length ≤ 15) ∧ 8 < (9 : Byte).toNat
      ∧ (cylinderNumber 2 = (3 : Byte).toNat ∧ (s.pool.lists.get 2).length ≤ 7 ∧ (s.table.get 2).streak ≤ 3
        ∧ (s.table.get 2).carry = none)
      ∧ (cylinderNumber 7 = (8 : Byte).toNat ∧ carry.listens .fuel
        ∧ (carry.table.get 7).carry = some { offset := -96, duration := 1800 }) := by decide +kernel

theorem witness_PopLog :
    let s := (ready.append .fuel (.withdrawn 5 17)).arrive 1000
    (ready.arrive 1000).listens .fuel ∧ ((ready.arrive 1000).links.get .fuel).log = []
      ∧ s.listens .fuel ∧ (s.links.get .fuel).log = .withdrawn 5 17 :: [] := by decide +kernel

theorem witness_PortResets :
    ((firing pulse).arrive 1000).timelineSound ∧ ((firing pulse).arrive 1000).listens .fuel
      ∧ ((firing pulse).arrive 1000).listens .supervisor ∧ (3 : Byte) ≠ 1 ∧ (3 : Byte) ≠ 2 := by decide +kernel

theorem witness_SoftReset :
    ((firing pulse).arrive 1000).listens .supervisor ∧ ((firing pulse).arrive 1000).timelineSound := by decide +kernel

/-- Every unit set by the fuel link. -/
def marked : State := ready.setMarks (Eight.all (some { owner := .fuel, mask := 1, offset := 0, mode := .every }))

theorem witness_SetAndClearMark :
    (ready.arrive 1000).listens .fuel
      ∧ (BitVec.ofInt 16 (-5761)).toInt < -5760 ∧ 5759 < (5760 : Word16).toInt
      ∧ ¬ ((1 : Byte) = 0 ∨ (5759 : Word16).toInt < -5760 ∨ 5759 < (5759 : Word16).toInt ∨ ((2 : Byte) ≠ 1 ∧ (2 : Byte) ≠ 2))
      ∧ ((marked.arrive 1000).listens .fuel ∧ ∀ i, (marked.arrive 1000).marks.get i ≠ none)
      ∧ (let s := (marked.setMarks (marked.marks.set 7 none)).arrive 1000
        s.marks.get 7 = none ∧ ∀ j : MarkIndex, j < 7 → s.marks.get j ≠ none)
      ∧ 7 < (8 : Byte).toNat
      ∧ ((7 : MarkIndex).val = (7 : Byte).toNat ∧ (ready.arrive 1000).marks.get 7 = none)
      ∧ (marked.arrive 1000).marks.get 7 = some { owner := .fuel, mask := 1, offset := 0, mode := .every } := by
  decide +kernel

theorem witness_PortStateAndClearStaging :
    (ready.arrive 1000).listens Owner.fuel.link ∧ 4 < (5 : Byte).toNat ∧ 16 < (17 : Byte).toNat
      ∧ 1 ≤ (4 : Byte).toNat ∧ (4 : Byte).toNat ≤ 4 ∧ (16 : Byte).toNat ≤ 16 := by decide +kernel

/-- A HOLD port with `n` entries. -/
def heldPort (n : Nat) : State :=
  ready.setPort .thermal { state := .hold, queue := List.replicate n (.withdraw { slot := 5, tag := 17 }), watermark := 8 }

theorem witness_StagingIntake :
    ((ready.arrive 1000).listens Owner.thermal.link ∧ ((ready.arrive 1000).staging.get .thermal).state = .quiet)
      ∧ (((heldPort 15).arrive 1000).listens Owner.thermal.link ∧ (((heldPort 15).arrive 1000).staging.get .thermal).state ≠ .quiet
        ∧ (((heldPort 15).arrive 1000).staging.get .thermal).queue.length < 16)
      ∧ (((heldPort 16).arrive 1000).listens Owner.thermal.link
        ∧ 16 ≤ (((heldPort 16).arrive 1000).staging.get .thermal).queue.length) := by decide +kernel

/-- Both queues LIVE with one request each, and a fuel run count. -/
def bothWaiting (n : Nat) : State :=
  let s := staged (staged ready .fuel (.withdraw { slot := 5, tag := 17 })) .thermal (.withdraw { slot := 11, tag := 9 })
  s.setStaging { s.staging with fuelRun := n }

theorem witness_ArbiterTakes :
    (let s := (staged ready .fuel (.withdraw { slot := 5, tag := 17 })).arrive 1000;
      (s.staging.get .fuel).queue = .withdraw { slot := 5, tag := 17 } :: [] ∧ s.queueWaits .fuel ∧ ¬ s.queueWaits .thermal
        ∧ ∃ n, s.nextTake = some (.fuel, n, .withdraw { slot := 5, tag := 17 }))
      ∧ (let s := (bothWaiting 3).arrive 1000
        s.queueWaits .fuel ∧ s.queueWaits .thermal ∧ s.staging.fuelRun ≤ 3)
      ∧ (let s := (bothWaiting 4).arrive 1000
        (s.staging.get .thermal).queue = .withdraw { slot := 11, tag := 9 } :: [] ∧ s.queueWaits .fuel ∧ s.queueWaits .thermal
          ∧ 4 ≤ s.staging.fuelRun)
      ∧ (let s := (staged ready .thermal (.withdraw { slot := 11, tag := 9 })).arrive 1000
        s.queueWaits .thermal ∧ ¬ s.queueWaits .fuel)
      ∧ (¬ (ready.arrive 1000).queueWaits .fuel ∧ ¬ (ready.arrive 1000).queueWaits .thermal)
      ∧ Staged.takenBy 1000 (.withdraw { slot := 5, tag := 17 }) ≠ Instr.takePlace 1000 := by
  refine ⟨⟨by decide +kernel, by decide +kernel, by decide +kernel, 0, by decide +kernel⟩, ?_⟩
  decide +kernel

theorem witness_TakeWithdraw :
    let w : WithdrawRequest := { slot := 5, tag := 17 }
    let s := (staged placed .fuel (.withdraw w)).arrive 1000
    let x := (staged (firing pulse) .fuel (.withdraw w)).arrive 1000
    let y := (staged ready .fuel (.withdraw { w with slot := 40 })).arrive 1000
    (s.nextTake = some (.fuel, 0, .withdraw w) ∧ s.pool.find 5 = some (main3 .pending) ∧ (5 : Slot).val = w.slot.toNat
        ∧ (main3 .pending).owner = .fuel ∧ (main3 .pending).tag = w.tag)
      ∧ (x.nextTake = some (.fuel, 0, .withdraw w) ∧ x.pool.find 5 = some (main3 (.firing fields 1000)))
      ∧ (y.nextTake = some (.fuel, 0, .withdraw { w with slot := 40 }) ∧ ∀ k : Slot, k.val ≠ (40 : Byte).toNat) := by
  decide +kernel

theorem witness_TakeAmend :
    let none' : AmendRequest := { slot := 11, tag := 9, offsetPresent := false, durationPresent := false, offset := 0, duration := 0 }
    let zero : AmendRequest := { none' with durationPresent := true }
    let wrong : AmendRequest := { zero with tag := 8 }
    let least : AmendRequest := { zero with duration := 1 }
    let close : AmendRequest := { none' with offsetPresent := true, offset := 200 }
    let at' (x : AmendRequest) : State := (staged placed .thermal (.amend x)).arrive 1000
    let q (offset : Int) (d : Nat) : PlanInput :=
      { owner := .thermal, cylinder := 2, kind := .after, offset := offset, duration := d, priority := 5, exclude := some 11 }
    (at' none').nextTake = some (.thermal, 0, .amend none')
      ∧ ((at' wrong).nextTake = some (.thermal, 0, .amend wrong) ∧ wrong.durationPresent = true
        ∧ (at' wrong).pool.find 11 = some (after3 .pending) ∧ (after3 .pending).tag ≠ wrong.tag)
      ∧ ((at' zero).nextTake = some (.thermal, 0, .amend zero) ∧ (at' zero).pool.find 11 = some (after3 .pending)
        ∧ (11 : Slot).val = zero.slot.toNat ∧ (after3 .pending).tag = zero.tag ∧ zero.duration = 0)
      ∧ (((at' least).removeHead .thermal 0).planFit (q 480 20) = .accepted [] 20 false)
      ∧ (((at' least).removeHead .thermal 0).planFit (q 481 600) = .accepted [] 600 false)
      ∧ (((at' close).removeHead .thermal 0).planFit (q 200 600) = .refused .conflict (some 5))
      ∧ ((staged (firing pulse) .thermal (.amend least)).arrive 1000).pool.find 11
        = some (after3 (.released { fields with duration := 600 } 3000)) := by decide +kernel

/-- Step 1 to step 4 refusals of a PLACE, an accepted one and one refused by the plan, each at a boundary. -/
theorem witness_TakePlace :
    let at' (s : State) (o : Owner) (r : PlaceRequest) : State := (staged s o (.place r)).arrive s.timeBase
    let b (s : State) (o : Owner) (r : PlaceRequest) : State := (at' s o r).removeHead o 0
    let main := request 3 2 (-96) 1800 12
    let stamped (n : Byte) : PlaceRequest := { request 1 2 (-96) 1800 12 with stampPresent := true, stamp := n }
    let low (n : Nat) : State := placed.setPool { placed.pool with free := allSlots.take n }
    ((at' State.reset .fuel main).nextTake = some (.fuel, 0, .place main) ∧ (b State.reset .fuel main).engine.valid = false)
      ∧ ((at' ready .fuel { main with cylinder := 7 }).nextTake = some (.fuel, 0, .place { main with cylinder := 7 })
        ∧ (b ready .fuel main).engine.valid = true ∧ min 8 (b ready .fuel main).configured.length < (7 : Byte).toNat)
      ∧ (cylinderNumber 5 = (6 : Byte).toNat ∧ cylinderNumber 5 ≤ (b ready .fuel main).configured.length)
      ∧ (Kind.late.code = (4 : BitVec 4).toNat ∧ ∀ k : Kind, k.code ≠ (5 : BitVec 4).toNat)
      ∧ ((b ready .fuel (stamped 0)).clock.sync ≠ .synced)
      ∧ ((at' placed .fuel (stamped 41)).nextTake = some (.fuel, 0, .place (stamped 41))
        ∧ (b placed .fuel (stamped 41)).clock.sync = .synced
        ∧ (b placed .fuel (stamped 41)).planFit ((b placed .fuel (stamped 41)).plannedPulse .fuel 0 .main (stamped 41))
          = .accepted [] 1800 false
        ∧ (b placed .fuel (stamped 41)).pool.free ≠ [])
      ∧ ((b placed .fuel main).planFit ((b placed .fuel main).plannedPulse .fuel 2 .main main) = .refused .conflict (some 5))
      ∧ (b (low 0) .fuel main).pool.free = []
      ∧ ((b (low 6) .thermal main).pool.free.length ≤ (b (low 6) .thermal main).limits.reserve
        ∧ (b (low 7) .thermal main).limits.reserve < (b (low 7) .thermal main).pool.free.length)
      ∧ placed.pool.find 5 = some (main3 .pending) := by
  refine ⟨by decide +kernel, by decide +kernel, by decide +kernel, ⟨rfl, fun k => by cases k <;> decide⟩, ?_⟩
  decide +kernel

/-- An accepted plan with a displacement, and one clamped by the budget. -/
theorem witness_PlanAcceptedFits :
    let b := (example515.arrive 1000).removeHead .thermal 0
    let q : PlanInput :=
      { owner := .thermal, cylinder := 1, kind := .late, offset := 640, duration := 1500, priority := 6, exclude := none }
    let tight := placed.setLimits { placed.limits with budget := 2420 }
    let m : PlanInput :=
      { owner := .fuel, cylinder := 2, kind := .main, offset := -96, duration := 1821, priority := 5, exclude := some 5 }
    (placed.pool.partitioned ∧ placed.withinCap)
      ∧ b.planFit q = .accepted [{ record := record 9 .fuel 31 1 .after 480 600 4 0 .pending, cause := .conflict }] 1500 false
      ∧ (tight.pool.partitioned ∧ tight.withinCap
        ∧ tight.planFit m = .accepted [] 1820 true) := by
  decide +kernel

/-- At the cap the record of least priority is marked, at one below the cap none; both records are marked for the budget when it lacks one
microsecond for the last. -/
theorem witness_PlanAcceptedFits_marks :
    let low (k : Slot) (offset : Int) (p : Nat) : Record := record k .fuel 1 2 .pre offset 100 p 0 .pending
    let two := holding synced [low 5 (-400) 3, low 6 (-200) 2]
    let capped (n : Nat) := two.setEngine { two.engine with config := { two.engine.config with cap := n } }
    let main : PlanInput :=
      { owner := .fuel, cylinder := 2, kind := .main, offset := 0, duration := 1800, priority := 12, exclude := none }
    ((capped 2).pool.partitioned ∧ (capped 2).withinCap)
      ∧ (two.pool.partitioned ∧ two.withinCap)
      ∧ (capped 2).planFit main = .accepted [{ record := low 6 (-200) 2, cause := .capacity }] 1800 false
      ∧ (capped 3).planFit main = .accepted [] 1800 false
      ∧ (two.setLimits { two.limits with budget := 1899 }).planFit main
        = .accepted [{ record := low 6 (-200) 2, cause := .budget }, { record := low 5 (-400) 3, cause := .budget }] 1800 false := by
  decide +kernel

/-- A refusal of each reason: the plan of a fuel MAIN against a firm record, at the cap, and over the budget. -/
theorem witness_PlanRefuses :
    let q : PlanInput :=
      { owner := .fuel, cylinder := 2, kind := .main, offset := -96, duration := 1800, priority := 12, exclude := none }
    let after : PlanInput := { q with kind := .after, offset := 480, priority := 1, exclude := some 11 }
    let capped := placed.setEngine { placed.engine with config := { placed.engine.config with cap := 1 } }
    let poor := placed.setLimits { placed.limits with budget := 0 }
    (placed.pool.partitioned ∧ placed.planFit q = .refused .conflict (some 5))
      ∧ (capped.pool.partitioned ∧ capped.planFit after = .refused .cylinderFull none)
      ∧ (poor.pool.partitioned ∧ poor.planFit { q with exclude := some 5 } = .refused .budget none) := by decide +kernel

theorem witness_CutNow :
    ((firing pulse).arrive 1000).listens .supervisor ∧ ((firing pulse).arrive 1000).timelineSound := by decide +kernel

theorem witness_WithdrawAnyAndScrub :
    let s := (firing pulse).arrive 1000
    s.listens .supervisor ∧ 39 < (40 : Byte).toNat ∧ ((39 : Slot).val = (39 : Byte).toNat ∧ s.pool.find 39 = none)
      ∧ (s.pool.find 5 = some (main3 (.firing fields 1000)) ∧ (main3 (.firing fields 1000)).isFiring = true)
      ∧ (s.pool.find 11 = some (after3 (.released { fields with duration := 600 } 3000))
        ∧ (after3 (.released { fields with duration := 600 } 3000)).isFiring = false) := by decide +kernel

/-- OVERSPEED masked with the flag set and a record RELEASED: unmasking it sweeps; and nothing to sweep in `ready`. -/
theorem witness_SetFaultMask :
    let s := (firing pulse).setLimits { synced.limits with overspeedActive := true }
    let a := (s.setFaults { s.faults with mask := 0b01000000000 }).arrive 1000
    (a.listens .supervisor ∧ a.timelineSound ∧ (a.faults.mask.getLsbD 9 && !(0 : BitVec 11).getLsbD 9) = true
        ∧ a.limits.overspeedActive = true)
      ∧ ((ready.arrive 1000).faults.mask.getLsbD 9 && !(0 : BitVec 11).getLsbD 9) = false := by decide +kernel

theorem witness_ConfigWrite :
    (ready.arrive 1000).listens .supervisor
      ∧ ((synced.arrive 1000).listens .supervisor ∧ (synced.arrive 1000).clock.sync ≠ .stopped)
      ∧ (let s := (holding ready [main3 .pending]).arrive 1000
        s.listens .supervisor ∧ s.clock.sync = .stopped ∧ s.pool.records ≠ [])
      ∧ ((ready.arrive 1000).clock.sync = .stopped ∧ (ready.arrive 1000).pool.records = [])
      ∧ 18 < (19 : Byte).toNat := by decide +kernel

theorem witness_ConfigRead :
    (ready.arrive 1000).listens .fuel ∧ Link.fuel ≠ .supervisor ∧ 1 ≤ (18 : Byte).toNat ∧ (18 : Byte).toNat ≤ 18
      ∧ (ready.engine.config.write (18 : Byte).toNat 0x0F0000000000000000).isSome = true := by decide +kernel

/-- `State.reset` with one item of the configuration replaced, at time 0. -/
def configured (c : EngineConfig) : State := (State.reset.setEngine { config := c, valid := false, geometry := none }).arrive 0

theorem witness_CommitConfig :
    let d := State.resetConfig
    let c4 := configured { d with cylinderCount := 4 }
    (c4.listens .supervisor ∧ c4.engine.config.cylinderCount = 4 ∧ c4.clock.sync = .stopped ∧ c4.pool.records = []
        ∧ ((c4.engine.config.firingOrder.toList.take 4).map fun e => e.val).count 2 = 0)
      ∧ (let s := configured d
        s.listens .supervisor ∧ ∀ k, 1 ≤ k → k ≤ 6 → ((s.engine.config.firingOrder.toList.take 6).map fun e => e.val).count k = 1)
      ∧ (∀ i < 6, (0 : Byte).getLsbD i = false)
      ∧ (modCycle ((10560 : Int) - 10560) = 0 ∧ modCycle ((10559 : Int) - 4800) = 5759)
      ∧ ¬ (({ lo := 1, hi := 0 } : Window).lo ≤ ({ lo := 1, hi := 0 } : Window).hi)
      ∧ ((synced.arrive 1000).engine.config.cylinderCount = 6 ∧ (synced.arrive 1000).clock.sync ≠ .stopped) := by
  refine ⟨?_, ⟨?_, fun k _ _ => ?_⟩, ?_⟩
  case refine_3 => interval_cases k <;> decide +kernel
  all_goals decide +kernel

/-- Each clause of a crank edge outside SYNCED, at the least interval of its class: P 600 and intervals of 149, 150, 1,199 and 1,200. -/
theorem witness_CrankEdgeUnsynced :
    let hunt (n : Bool) := (turning .hunt 0 0 (some 600)).setClock { (turning .hunt 0 0 (some 600)).clock with normalSeen := n }
    State.reset.engine.valid = false
      ∧ ((ready.arrive 1000).engine.valid = true ∧ (ready.arrive 1000).clock.sync = .stopped ∧ (ready.arrive 1000).faults.raised = [])
      ∧ (((turning .hunt 0 0 none).arrive 1000).clock.sync = .hunt ∧ ((turning .hunt 0 0 none).arrive 1000).clock.period = none)
      ∧ (((hunt false).arrive 1149).clock.period = some 600 ∧ 4 * ((1149 : Time) - 1000).toNat < 600)
      ∧ (((hunt false).arrive 2199).clock.sync = .hunt ∧ 600 ≤ 4 * ((2199 : Time) - 1000).toNat ∧ ((2199 : Time) - 1000).toNat < 2 * 600)
      ∧ (((hunt false).arrive 2200).clock.normalSeen = false ∧ 2 * 600 ≤ ((2200 : Time) - 1000).toNat)
      ∧ ((hunt true).arrive 2200).clock.normalSeen = true
      ∧ (((turning .gapFound 56 0 (some 600)).arrive 1150).clock.sync = .gapFound ∧ (if (56 : Nat) = 57 then 0 else 56 + 1) ≠ 0)
      ∧ (((turning .gapFound 57 0 (some 600)).arrive 2200).clock.tooth = 57 ∧ (if (57 : Nat) = 57 then 0 else 57 + 1) = 0) := by
  decide +kernel

theorem witness_CrankEdgeSynced :
    let cam (h : CamHistory) := (turning .synced 57 1 (some 600)).setClock { (turning .synced 57 1 (some 600)).clock with cam := h }
    (synced.arrive 1600).engine.valid = true ∧ (synced.arrive 1600).clock.sync = .synced
      ∧ (synced.arrive 1600).clock.period = some 600 ∧ 600 ≤ 4 * ((1600 : Time) - 1000).toNat ∧ ((1600 : Time) - 1000).toNat < 2 * 600
      ∧ (synced.arrive 1600).clock.tooth = 46
      ∧ ((turning .synced 57 0 (some 600)).arrive 2800).clock.revolution = 0
      ∧ (((cam { seen := false, good := false, opposite := false, verdict := false }).arrive 2800).clock.revolution = 1
        ∧ ((cam { seen := false, good := false, opposite := false, verdict := false }).arrive 2800).clock.cam.seen = false)
      ∧ ((cam { seen := true, good := false, opposite := true, verdict := true }).arrive 2800).clock.cam.verdict = true
      ∧ ((cam { seen := true, good := true, opposite := true, verdict := true }).arrive 2800).clock.cam.good = true
      ∧ (let adv : Advance :=
          { state := .synced, time := 1600, cls := .normal, period := some 600, angles := some (4416, 4512), cycle := 40 }
        adv.angles = some (4416, 4512) ∧ adv.period = some 600 ∧ ({ adv with angles := none } : Advance).angles = none)
      ∧ [Block.driver .bankB, .marks, .limits, .driver .bankA, .release].Perm
        [.release, .limits, .driver .bankA, .driver .bankB, .marks] := by
  decide +kernel

theorem witness_CamEdge :
    (ready.arrive 1000).clock.sync = .stopped
      ∧ (((turning .gapFound 50 0 (some 600)).arrive 1000).clock.sync = .gapFound
        ∧ ((turning .gapFound 50 0 (some 600)).arrive 1000).clock.period = some 600
        ∧ ¬ inCamWindow 10560 11039 4800 = true ∧ inCamWindow 10560 11039 (4800 + 5760) = true)
      ∧ (((turning .synced 50 1 (some 600)).arrive 1000).clock.sync = .synced ∧ inCamWindow 10560 11039 10560 = true
        ∧ inCamWindow 10560 11039 11039 = true ∧ ¬ inCamWindow 10560 11039 11040 = true)
      ∧ (((turning .synced 50 0 (some 600)).arrive 1000).clock.lastAngle = 4800)
      ∧ inCamWindow 100 200 150 = true := by decide +kernel

theorem witness_CamWindow : ((100 : Int) - 11400) % 11520 < 5760 ∧ inCamWindow 11400 100 100 = true := by decide +kernel

theorem witness_StallExpiry :
    (ready.arrive 1000).clock.sync = .stopped
      ∧ ((synced.arrive 201000).clock.stall = some 201000 ∧ (synced.arrive 201000).clock.sync = .synced)
      ∧ ((synced.arrive 200999).clock.stall = some 201000 ∧ 2 ^ 31 ≤ ((200999 : Time) - 201000).toNat)
      ∧ ((turning .hunt 0 0 none).arrive 201000).clock.sync = .hunt := by decide +kernel

/-- With the waiting record as it is, and with it marked final. -/
theorem witness_LeavingSyncedNotice :
    let final := (firing pulse).updateRecord 11 Record.markFinal
    ((firing pulse).timelineSound ∧ (firing pulse).drivers.bankA.waiting ≠ [])
      ∧ final.timelineSound ∧ (final.pool.records.filter fun r => r.isReleased && r.final).map (fun r => r.slot) = [11] := by
  decide +kernel

/-- Slot 5 PENDING: with a wrong check bit, disabled, under overspeed, with 20 and 19 left of the budget, and its tag with bit 0 flipped. -/
theorem witness_ReleaseStep :
    let flipped : Record := { main3 .pending with tag := 16 }
    let wrong : Record := { main3 .pending with check := !(main3 .pending).check }
    (placed.timelineSound ∧ placed.pool.find 5 = some (main3 .pending) ∧ (main3 .pending).phase = .pending)
      ∧ ((main3 .pending).check = (main3 .pending).parity ∧ wrong.check ≠ wrong.parity)
      ∧ (placed.setLimits { placed.limits with enables := 0xFB }).enabled 2 = false
      ∧ (placed.enabled 2 = true ∧ placed.faults.mask.getLsbD 9 = false)
      ∧ ((6000 : Nat) < 5980 + 1800 ∧ 20 ≤ (6000 : Int) - 5980) ∧ ((6000 : Nat) < 5981 + 1800 ∧ (6000 : Int) - 5981 < 20)
      ∧ ((main3 .pending).tag = 17 ∧ BitVec.ofNat 8 16 = BitVec.ofNat 8 17 ^^^ (1#8 <<< 0) ∧ flipped.check ≠ flipped.parity) := by
  decide +kernel

/-- The place in a waiting list: a planned start one microsecond before that of slot 11, and one after it. -/
theorem witness_ReleaseStep_place :
    (holding synced [main3 (.released fields 2999), after3 (.released fields 3000)]).startsBefore 5 11
      ∧ ¬ (holding synced [main3 (.released fields 3000), after3 (.released fields 2999)]).startsBefore 5 11 := by
  refine ⟨⟨_, _, fields, fields, 2999, 3000, rfl, rfl, rfl, rfl, .inl (by decide +kernel)⟩, ?_⟩
  rintro ⟨x, y, f, g, T, U, hx, hy, hf, hg, h⟩
  rw [show (holding synced [main3 (.released fields 3000), after3 (.released fields 2999)]).pool.find 5
    = some (main3 (.released fields 3000)) by decide +kernel] at hx
  rw [show (holding synced [main3 (.released fields 3000), after3 (.released fields 2999)]).pool.find 11
    = some (after3 (.released fields 2999)) by decide +kernel] at hy
  cases hx; cases hy; cases hf; cases hg
  revert h
  decide +kernel

/-- Slot 5 RELEASED: S 4,832 in the interval (4,800, 4,896], not in (4,416, 4,512], and with the late note. -/
theorem witness_RecomputeStep :
    ((waiting 3000 false).timelineSound ∧ (waiting 3000 false).pool.find 5 = some (main3 (.released fields 3000)))
      ∧ (1 ≤ modCycle ((4832 : Int) - 4800) ∧ modCycle ((4832 : Int) - 4800) ≤ modCycle ((4896 : Int) - 4800))
      ∧ ¬ (modCycle ((4832 : Int) - 4416) ≤ modCycle ((4512 : Int) - 4416))
      ∧ ((waiting 3000 true).timelineSound
        ∧ ∃ e ∈ (waiting 3000 true).drivers.bankA.waiting ++ (waiting 3000 true).drivers.bankB.waiting, e.slot = 5 ∧ e.late = true) := by
  decide +kernel

/-- Cylinder 1, TDC 1,088: decision point 304 in (288, 384], boundary 6,848 in (6,816, 6,912]; with and without a carry entry. -/
theorem witness_BoundaryAndCarry :
    let e := synced.table.get 0
    let s := synced.setCylinder 0 { e with carry := some { offset := -96, duration := 1800 }, carryCount := 2 }
    let q : PlanInput :=
      { owner := .fuel, cylinder := 0, kind := .main, offset := -96, duration := 1800, priority := 12, exclude := none }
    modCycle ((e.tdc : Int) + synced.engine.config.mainWindow.lo - synced.engine.config.lead) = 304
      ∧ (1 ≤ modCycle ((304 : Int) - 288) ∧ modCycle ((304 : Int) - 288) ≤ modCycle ((384 : Int) - 288))
      ∧ (synced.enabled 0 = true ∧ synced.limits.overspeedActive = false ∧ synced.pool.lists.get 0 = [] ∧ e.carry = none)
      ∧ ((s.table.get 0).carry = some { offset := -96, duration := 1800 } ∧ (s.table.get 0).carryCount < s.engine.config.carryLimit
        ∧ s.pool.free ≠ [] ∧ s.planFit q = .accepted [] 1800 false)
      ∧ synced.engine.config.carryLimit ≤ ({ e with carryCount := 3 } : CylinderStatus).carryCount
      ∧ (s.setLimits { s.limits with budget := 19 }).planFit q = .refused .budget none
      ∧ ((s.setLimits { s.limits with budget := 20 }).planFit q = .accepted [] 20 true
        ∧ (s.setLimits { s.limits with reserve := 39 }).limits.reserve < s.pool.free.length)
      ∧ (1 ≤ modCycle (((e.tdc + 5760) % 11520 : Nat) - (6816 : Int))
        ∧ modCycle (((e.tdc + 5760) % 11520 : Nat) - (6816 : Int)) ≤ modCycle ((6912 : Int) - 6816)) := by decide +kernel

/-- Unit 0 set for cylinder 1 at offset 0: its mark angle 1,088 lies in (1,056, 1,152] and not in (960, 1,056] (section 1.7). -/
theorem witness_MarkUnitHits :
    let u : MarkUnit := { owner := .supervisor, mask := 1, offset := 0, mode := .every }
    let s := synced.setMarks (synced.marks.set 0 (some u))
    s.marks.get 0 = some u ∧ (0 : Cylinder) ∈ s.configured ∧ u.mask.getLsbD 0 = true
      ∧ (1 ≤ modCycle (((s.table.get 0).tdc : Int) + u.offset - (1056 : Nat))
        ∧ modCycle (((s.table.get 0).tdc : Int) + u.offset - (1056 : Nat)) ≤ modCycle ((1152 : Int) - 1056))
      ∧ (∀ x : Cylinder, u.mask.getLsbD x.val = true → x = 0)
      ∧ ¬ (modCycle (((s.table.get 0).tdc : Int) + u.offset - (960 : Nat)) ≤ modCycle ((1056 : Int) - 960)) := by decide +kernel

/-- The head due with slip 0, 100 and 101, not yet due, under a STAGE_FAULT line, and with the late note; a second entry behind a head that is
skipped; and a bank that is not IDLE. -/
theorem witness_StartDecision :
    let s (planned : Time) (late : Bool) := (waiting planned late).arrive 1000
    ((s 1000 false).drivers.bankA.state = .idle ∧ (s 1000 false).drivers.bankA.waiting = { slot := 5, late := false } :: []
        ∧ (s 1000 false).pool.find 5 = some (main3 (.released fields 1000)) ∧ (s 1000 false).faults.raised = [])
      ∧ (((1000 : Time) - 900).toNat = 100 ∧ (s 900 false).engine.config.maxSlip = 100
        ∧ (s 900 false).pool.find 5 = some (main3 (.released fields 900)))
      ∧ (s 899 true).pool.find 5 = some (main3 (.released fields 899))
      ∧ 2 ^ 31 ≤ ((1000 : Time) - 1001).toNat
      ∧ ((s 1000 true).drivers.bankA.waiting = [{ slot := 5, late := true }])
      ∧ (let x := waiting 1000 false
        ((x.setBank .bankA { x.drivers.bankA with stageFault := true }).arrive 1000).drivers.bankA.stageFault = true)
      ∧ (let x := holding synced [main3 (.released fields 899), after3 (.released { fields with duration := 600 } 900)]
        let y := (x.setBank .bankA
          { state := .idle, waiting := [{ slot := 5, late := false }, { slot := 11, late := false }], stageFault := false }).arrive 1000
        y.drivers.bankA.waiting = { slot := 5, late := false } :: [{ slot := 11, late := false }]
          ∧ y.pool.find 5 = some (main3 (.released fields 899)) ∧ y.engine.config.maxSlip < ((1000 : Time) - 899).toNat)
      ∧ ((firing pulse).arrive 1000).drivers.bankA.state ≠ .idle := by decide +kernel

theorem witness_FiringOpportunityEnds :
    (firing pulse).pool.find 5 = some (main3 (.firing fields 1000)) ∧ (main3 (.firing fields 1000)).repeats = 0
      ∧ ((firing pulse).pool.find 11 = some (after3 (.released { fields with duration := 600 } 3000))
        ∧ 1 < (after3 (.released { fields with duration := 600 } 3000)).repeats)
      ∧ (record 5 .fuel 17 2 .main (-96) 1800 12 1 .pending).repeats = 1
      ∧ (main3 (.firing { fields with final := true } 1000)).final = true
      ∧ (main3 .pending).report = true := by decide +kernel

/-- The pulse end at 2,800, at it and one microsecond before it; and a bank without a pulse. -/
theorem witness_EndOfPulse :
    ((∀ p, (ready.arrive 1000).drivers.bankA.state ≠ .firing p))
      ∧ (let s := (firing { pulse with deadline := none }).arrive 2800
        s.drivers.bankA.state = .firing { pulse with deadline := none } ∧ ((2800 : Time) - pulse.ends).toNat < 2 ^ 31
          ∧ s.pool.find pulse.slot = some (main3 (.firing fields 1000)))
      ∧ 2 ^ 31 ≤ ((2799 : Time) - pulse.ends).toNat :=
  ⟨not_firing (by decide +kernel), by decide +kernel, by decide +kernel⟩

theorem witness_PeakDeadlineAndRecovery :
    (let s := (firing pulse).arrive 1300;
      s.drivers.bankA.state = .firing pulse ∧ pulse.deadline = some 1300 ∧ pulse.peakSeen = false
        ∧ s.pool.find pulse.slot = some (main3 (.firing fields 1000)) ∧ (s.table.get 2).streak < 2)
      ∧ ((firing { pulse with peakSeen := true }).arrive 1300).drivers.bankA.state = .firing { pulse with peakSeen := true }
      ∧ 2 ^ 31 ≤ ((1299 : Time) - 1300).toNat
      ∧ (∀ p d, (ready.arrive 1000).drivers.bankA.state = .firing p → p.deadline ≠ some d)
      ∧ (let x := waiting 903 false
        let s := (x.setBank .bankA { x.drivers.bankA with state := .recovery 1000 }).arrive 1000
        s.drivers.bankA.state = .recovery 1000)
      ∧ (let s := (ready.setBank .bankA { ready.drivers.bankA with state := .recovery 1000 }).arrive 1000
        s.drivers.bankA.state = .recovery 1000 ∧ s.drivers.bankA.waiting = [] ∧ s.faults.raised = [])
      ∧ (∀ e, (ready.arrive 1000).drivers.bankA.state ≠ .recovery e) :=
  ⟨by decide +kernel, by decide +kernel, by decide +kernel, fun p _ h => absurd h (not_firing (by decide +kernel) p),
    by decide +kernel, by decide +kernel, not_recovery (by decide +kernel)⟩

theorem witness_PowerStageLines :
    (∀ p, (ready.arrive 1000).drivers.bankA.state ≠ .firing p) ∧ (ready.arrive 1000).drivers.bankA.stageFault = false
      ∧ (let s := (firing pulse).arrive 1200
        s.drivers.bankA.state = .firing pulse ∧ s.drivers.bankA.stageFault = false
          ∧ s.pool.find pulse.slot = some (main3 (.firing fields 1000)))
      ∧ ((ready.setBank .bankA { ready.drivers.bankA with stageFault := true }).arrive 1000).drivers.bankA.stageFault = true :=
  ⟨not_firing (by decide +kernel), by decide +kernel, by decide +kernel, by decide +kernel⟩

/-- An empty capture record, one held at severity 1 and one at severity 4; masked and unmasked; a log of 31 and of 32 entries; a fault handed
over and not yet taken. -/
theorem witness_FaultRaised :
    (ready.faults.raised = [] ∧ (ready.handFault .release .integrity (some 2) (some 5)).faults.raised ≠ [])
      ∧ ready.faults.capture = none ∧ FaultKind.slipSkip.severity < FaultKind.noRise.severity
      ∧ FaultKind.noRise.severity ≤ FaultKind.injectorWatch.severity
      ∧ ((waiting 3000 false).faults.mask.getLsbD (FaultKind.overspeed.code - 1) = false ∧ (waiting 3000 false).timelineSound
        ∧ (waiting 3000 false).drivers.bankA.waiting ≠ [])
      ∧ (ready.setFaults { ready.faults with mask := 8 }).faults.mask.getLsbD (FaultKind.noRise.code - 1) = true
      ∧ (let s (n : Nat) := ready.setLink .supervisor
          { ready.links.supervisor with log := List.replicate n (.withdrawn 5 17) }
        ((s 31).links.get .supervisor).log.length < 32 ∧ 32 ≤ ((s 32).links.get .supervisor).log.length) := by decide +kernel

theorem witness_AnswerLog :
    let s (n : Nat) := ready.setLink .fuel { ready.links.fuel with log := List.replicate n (.withdrawn 5 17) }
    ((s 31).links.get .fuel).log.length < 32 ∧ 32 ≤ ((s 32).links.get .fuel).log.length := by decide +kernel

end Sys2Proof.Tests
end

section
/-! PROOF. The cam window as the two clauses of R11 (O47). -/

namespace Sys2Proof.Machine

/-- An angle modulo one engine cycle, read as an integer (R11, R28). -/
theorem modCycle_cast (x : Int) : (modCycle x : Int) = x % 11520 := by
  have hpos : 0 ≤ x % 11520 := Int.emod_nonneg x (by decide)
  simpa [modCycle, Config.cycleSteps] using hpos

/-- The cam window by the distances from its lower end (R11). -/
theorem inCamWindow_iff (lo hi x : Nat) :
    inCamWindow lo hi x = true ↔ ((x : Int) - lo) % 11520 ≤ ((hi : Int) - lo) % 11520 := by
  rw [← modCycle_cast, ← modCycle_cast, Int.ofNat_le]
  exact decide_eq_true_iff

/-- Of two distances one revolution apart, taken modulo one cycle, one is at least a revolution. -/
theorem revolution_le_of_emod_lt {x : Int} (h : x % 11520 < 5760) : 5760 ≤ (x + 5760) % 11520 := by
  omega

/-- Settles O47: the second clause rests on the span being below one revolution, which one of the two distances reaches. -/
theorem camWindow : Obligations.CamWindow := by
  unfold Obligations.CamWindow
  refine ⟨inCamWindow_iff, fun lo hi x hspan hx => ?_⟩
  have hnear : ((x : Int) - lo) % 11520 < 5760 := ((inCamWindow_iff lo hi x).mp hx).trans_lt hspan
  have hfar : 5760 ≤ ((x : Int) - lo + 5760) % 11520 := revolution_le_of_emod_lt hnear
  rw [← Bool.not_eq_true, inCamWindow_iff]
  push_cast
  rw [add_sub_right_comm]
  exact not_le.mpr (hspan.trans_le hfar)

end Sys2Proof.Machine
end

section
/-! PROOF. READ_ANGLE answers the table of R17 in the layout of R162 (O19). -/

namespace Sys2Proof.Machine

/-! ### Numbers packed into bytes (R161, R162) -/

/-- The bits of a number cut at bit `m`: those above it stand before the `m` low ones. -/
theorem ofNat_div_append (n m x : Nat) :
    BitVec.ofNat n (x / 2 ^ m) ++ BitVec.ofNat m x = BitVec.ofNat (n + m) x := by
  apply BitVec.eq_of_toNat_eq
  have hlow : x % 2 ^ m < 2 ^ m := Nat.mod_lt _ (Nat.two_pow_pos m)
  calc (BitVec.ofNat n (x / 2 ^ m) ++ BitVec.ofNat m x).toNat
      = (x / 2 ^ m % 2 ^ n) <<< m ||| x % 2 ^ m := by simp
    _ = x % 2 ^ m + 2 ^ m * (x / 2 ^ m % 2 ^ n) := by
        rw [← Nat.shiftLeft_add_eq_or_of_lt hlow, Nat.shiftLeft_eq, mul_comm, add_comm]
    _ = (BitVec.ofNat (n + m) x).toNat := by
        rw [BitVec.toNat_ofNat, add_comm n m, pow_add, Nat.mod_mul]

/-- Two items packed into one number, the lower one within its `m` bits. -/
theorem ofNat_append_of_lt (n m q : Nat) {r : Nat} (h : r < 2 ^ m) :
    BitVec.ofNat n q ++ BitVec.ofNat m r = BitVec.ofNat (n + m) (q * 2 ^ m + r) := by
  have hdiv : (q * 2 ^ m + r) / 2 ^ m = q := by
    rw [Nat.add_comm, Nat.add_mul_div_right _ _ (Nat.two_pow_pos m), Nat.div_eq_of_lt h, Nat.zero_add]
  have hmod : BitVec.ofNat m (q * 2 ^ m + r) = BitVec.ofNat m r := by
    apply BitVec.eq_of_toNat_eq
    simp [Nat.mul_add_mod_self_right]
  rw [← ofNat_div_append, hdiv, hmod]

/-- Bits in front of a cut number: the two pieces join behind them. -/
theorem append_ofNat_div_append {w : Nat} (x : BitVec w) (n m k : Nat) :
    x ++ BitVec.ofNat n (k / 2 ^ m) ++ BitVec.ofNat m k = (x ++ BitVec.ofNat (n + m) k).cast (by omega) := by
  rw [BitVec.append_assoc, ofNat_div_append]

/-- Bits in front of two packed items: the items join behind them. -/
theorem append_ofNat_append_of_lt {w : Nat} (x : BitVec w) (n m q : Nat) {r : Nat} (h : r < 2 ^ m) :
    x ++ BitVec.ofNat n q ++ BitVec.ofNat m r = (x ++ BitVec.ofNat (n + m) (q * 2 ^ m + r)).cast (by omega) := by
  rw [BitVec.append_assoc, ofNat_append_of_lt n m q h]

/-- Behind any bits, two bytes of a number are its sixteen low bits (R161). -/
theorem append_bytes2 {w : Nat} (x : BitVec w) (k : Nat) :
    x ++ byte (k / 256) ++ byte k = x ++ BitVec.ofNat 16 k :=
  append_ofNat_div_append x 8 8 k

/-- Behind any bits, four bytes of a number are its thirty-two low bits (R161). -/
theorem append_bytes4 {w : Nat} (x : BitVec w) (k : Nat) :
    x ++ byte (k / 65536 / 256) ++ byte (k / 65536) ++ byte (k / 256) ++ byte k = x ++ BitVec.ofNat 32 k := by
  rw [append_bytes2, append_bytes2]
  exact append_ofNat_div_append x 16 16 k

/-- Behind any bits, five bytes of a number are its forty low bits (R161). -/
theorem append_bytes5 {w : Nat} (x : BitVec w) (k : Nat) :
    x ++ byte (k / 4294967296) ++ byte (k / 65536 / 256) ++ byte (k / 65536) ++ byte (k / 256) ++ byte k
      = x ++ BitVec.ofNat 40 k := by
  rw [append_bytes4]
  exact append_ofNat_div_append x 8 32 k

/-- Two numbers of two bytes and one of five fill the data, one after the other (R162). -/
theorem dataOf_bytes2_bytes2_bytes5 (a b c : Nat) :
    dataOf (bytes2 a ++ bytes2 b ++ bytes5 c) = BitVec.ofNat 16 a ++ BitVec.ofNat 16 b ++ BitVec.ofNat 40 c := by
  simp only [bytes5, bytes4, bytes2, List.cons_append, List.nil_append]
  rw [dataOf_nine, append_bytes5, append_bytes2, bytes2_append]

/-! ### The angle clock as it is read (R16, R17) -/

/-- The speed the clock reports: 1,000,000 over P, and 0 while P is absent (R2, R36). -/
theorem Clock.rpm_eq (c : Clock) : c.rpm = 1000000 / c.period.getD 0 := by
  unfold Clock.rpm
  cases c.period <;> rfl

/-- The speed fits its twenty bits whatever P is (R162). -/
theorem rpm_lt (p : Nat) : 1000000 / p < 2 ^ 20 :=
  (Nat.div_le_self _ _).trans_lt (by decide)

/-- A sound clock in GAP_FOUND or SYNCED has a P, and its last tooth angle is at most that of tooth 57 in revolution 1. -/
theorem clockSound_turning {s : State} (hs : s.clockSound) (h : s.clock.sync = .gapFound ∨ s.clock.sync = .synced) :
    (∃ p, s.clock.period = some p) ∧ s.clock.lastAngle ≤ 11232 := by
  have hrev := s.clock.revolution.isLt
  obtain h | h := h
  · simp only [State.clockSound, h, Bool.and_eq_true, decide_eq_true_eq, beq_iff_eq, Option.isSome_iff_exists] at hs
    obtain ⟨-, ⟨⟨-, hp⟩, htooth⟩, hlast⟩ := hs
    exact ⟨hp, by omega⟩
  · simp only [State.clockSound, h, Bool.and_eq_true, decide_eq_true_eq, beq_iff_eq, Option.isSome_iff_exists] at hs
    obtain ⟨-, ⟨⟨-, hp⟩, htooth⟩, hlast⟩ := hs
    exact ⟨hp, by omega⟩

/-- In STOPPED and HUNT the angle reads 0 (R17). -/
theorem angleRead_still {s : State} (h : s.clock.sync = .stopped ∨ s.clock.sync = .hunt) : s.angleRead = 0 := by
  unfold State.angleRead
  obtain h | h := h <;> rw [h]

/-- In GAP_FOUND and SYNCED the interpolated angle is read (R17). -/
theorem angleRead_turning {s : State} (h : s.clock.sync = .gapFound ∨ s.clock.sync = .synced) :
    s.angleRead = s.clock.interpolated s.timeBase := by
  unfold State.angleRead
  obtain h | h := h <;> rw [h]

/-- The interpolated angle of a clock with a P: the last tooth angle and the limited part of the pitch (R16). -/
theorem Clock.interpolated_some {c : Clock} {p : Nat} (hp : c.period = some p) (t : Time) :
    c.interpolated t = c.lastAngle + min (if c.tooth = 57 then 287 else 95) ((t - c.lastTooth).toNat * 96 / p) := by
  unfold Clock.interpolated
  rw [hp]
  rfl

/-- Interpolation adds at most 287 steps, the limit after tooth 57 (R16). -/
theorem Clock.interpolated_le (c : Clock) (t : Time) : c.interpolated t ≤ c.lastAngle + 287 := by
  cases hp : c.period with
  | none => simp [Clock.interpolated, hp]
  | some p =>
    rw [Clock.interpolated_some hp]
    split <;> omega

/-- The angle read stays below one cycle, and so fits its fourteen bits (R16, R162). -/
theorem angleRead_lt {s : State} (hs : s.clockSound) : s.angleRead < 2 ^ 14 := by
  have hmoves (h : s.clock.sync = .gapFound ∨ s.clock.sync = .synced) : s.angleRead < 2 ^ 14 := by
    have hle := Clock.interpolated_le s.clock s.timeBase
    have hlast := (clockSound_turning hs h).2
    rw [angleRead_turning h]
    omega
  cases h : s.clock.sync with
  | stopped => simp [angleRead_still (.inl h)]
  | hunt => simp [angleRead_still (.inr h)]
  | gapFound => exact hmoves (.inl h)
  | synced => exact hmoves (.inr h)

/-- What READ_ANGLE answers about a clock whose angle reads `angle`: sync state, angle, cycle counter, P and rpm (R17, R162). -/
def Clock.angleData (c : Clock) (angle : Nat) : Data :=
  BitVec.ofNat 2 c.sync.code ++ BitVec.ofNat 14 angle ++ c.cycle ++ BitVec.ofNat 20 (c.period.getD 0)
    ++ BitVec.ofNat 20 (1000000 / c.period.getD 0)

/-- The answer of READ_ANGLE in its items, on an angle that fits its fourteen bits (R17, R162). -/
theorem readAngle_eq {s : State} (h : s.angleRead < 2 ^ 14) :
    s.readAngle = (s, .ok, s.clock.angleData s.angleRead) := by
  have hfront := ofNat_append_of_lt 2 14 s.clock.sync.code h
  have hback := append_ofNat_append_of_lt (BitVec.ofNat (2 + 14) (s.clock.sync.code * 2 ^ 14 + s.angleRead) ++ s.clock.cycle)
    20 20 (s.clock.period.getD 0) (rpm_lt (s.clock.period.getD 0))
  unfold State.readAngle Clock.angleData
  rw [dataOf_bytes2_bytes2_bytes5, Clock.rpm_eq, BitVec.ofNat_toNat, BitVec.setWidth_eq, hfront, hback]
  rfl

/-- READ_ANGLE on a port that takes frames: the response, and no other change (R156, R17). -/
theorem exec_readAngle {t : Time} {l : Link} {s : State} (hl : (s.arrive t).listens l) (hs : (s.arrive t).clockSound) :
    exec (.readAngle t l) s
      = .next ((s.arrive t).respond l .ok 0x04 ((s.arrive t).clock.angleData (s.arrive t).angleRead)) := by
  have htaken := State.onFrame_taken s t l .readAngle (fun s => s.readAngle) hl rfl
  rw [readAngle_eq (angleRead_lt hs)] at htaken
  exact congrArg Host.Outcome.next htaken

/-- Settles O19: the two clauses are the two ways the angle is read, in the same answer. -/
theorem readAngle : Obligations.ReadAngle := by
  unfold Obligations.ReadAngle
  intro t l s a p data hl hs
  have hdata (x : Nat) : a.clock.angleData x = data x := rfl
  refine ⟨fun hstill => ?_, fun hturning => ?_⟩
  · rw [exec_readAngle hl hs, angleRead_still hstill, hdata]
  · obtain ⟨⟨q, hq⟩, -⟩ := clockSound_turning hs hturning
    have hp : p = q := by simp [p, hq]
    rw [exec_readAngle hl hs, angleRead_turning hturning, Clock.interpolated_some hq, State.arrive_timeBase, hp, hdata]

end Sys2Proof.Machine
end

section
/-! PROOF. The end of a firing opportunity: retirement, then the report when one is called for (O55). -/

namespace Sys2Proof.Machine

/-! ### When a report is called for, and what it holds (R122) -/

/-- A report is called for by the record, by its shortening, or by an outcome that is no start (R122). -/
theorem reportCalled_iff (o : Outcome) (r : Record) (shortened : Bool) :
    reportCalled o r shortened = true ↔ r.report = true ∨ shortened = true ∨ ∀ x, o ≠ .started x := by
  cases o <;> simp [reportCalled, or_comm]

/-- The firing report of a record, by the repeat remaining and whether the slot was freed (R122). -/
def Record.firingReport (r : Record) (k : Slot) (o : Outcome) (cycle : Word16) (start : Option Time) (d : Nat)
    (noRise : Bool) (repeats : Nat) (freed : Bool) : LogEntry :=
  .firing
    { slot := k, tag := r.tag, cylinder := r.cylinder, kind := r.kind, carried := r.carried, cycle := cycle,
      outcome := o, shortened := r.shortened, noRise := noRise, start := start, duration := d, repeats := repeats,
      freed := freed }

namespace State

/-- What an append makes of the links depends on the links alone (R147). -/
theorem append_links_congr {s u : State} (h : u.links = s.links) (l : Link) (e : LogEntry) :
    (u.append l e).links = (s.append l e).links := by
  unfold append
  rw [h]
  split
  · rw [setLink_links, setLink_links, h]
  · rw [raiseFlag_links, raiseFlag_links, h]

/-! ### The three retirements (R123) -/

/-- A final record, and one of repeat 1, is freed (R123). -/
theorem retire_freed (s : State) (k : Slot) {r : Record} (h : r.final = true ∨ r.repeats = 1) :
    s.retire k r = (s.freeSlot k, 0, true) := by
  obtain ⟨-, heq⟩ | ⟨hfinal, hrepeats, -⟩ | ⟨hfinal, hrepeats, -⟩ := retire_cases s k r
  · exact heq
  all_goals
    have hone : r.repeats = 1 := h.resolve_left (Bool.not_eq_true _ ▸ hfinal)
    omega

/-- A record that is not freed and has a repeat above 1 is counted down (R123). -/
theorem retire_counted (s : State) (k : Slot) {r : Record} (h : ¬ (r.final = true ∨ r.repeats = 1))
    (hrepeats : 1 < r.repeats) : s.retire k r = (s.returnCounted k, r.repeats - 1, false) := by
  obtain ⟨hfrees, -⟩ | ⟨-, -, heq⟩ | ⟨-, hzero, -⟩ := retire_cases s k r
  · exact absurd hfrees h
  · exact heq
  · omega

/-- A standing record that is not freed is kept (R123). -/
theorem retire_standing (s : State) (k : Slot) {r : Record} (h : ¬ (r.final = true ∨ r.repeats = 1))
    (hzero : r.repeats = 0) : s.retire k r = (s.returnPending k, 0, false) := by
  obtain ⟨hfrees, -⟩ | ⟨-, hrepeats, -⟩ | ⟨-, -, heq⟩ := retire_cases s k r
  · exact absurd hfrees h
  · omega
  · exact heq

/-- A record that is not freed reports its repeat less 1, which is 0 for a standing record (R122, R123). -/
theorem retire_kept_reported (s : State) (k : Slot) {r : Record} (h : ¬ (r.final = true ∨ r.repeats = 1)) :
    (s.retire k r).2 = (r.repeats - 1, false) := by
  obtain ⟨hfrees, -⟩ | ⟨-, -, heq⟩ | ⟨-, hzero, heq⟩ := retire_cases s k r
  · exact absurd hfrees h
  · rw [heq]
  · rw [heq, hzero]

/-- Of the drivers a retirement touches the waiting lists alone: the record leaves the one it stands in (R110). -/
theorem retire_drivers (s : State) (k : Slot) (r : Record) :
    (s.retire k r).1.drivers = (s.dropWaiting k).drivers := by
  obtain ⟨-, heq⟩ | ⟨-, -, heq⟩ | ⟨-, -, heq⟩ := retire_cases s k r <;> rw [heq] <;> rfl

/-- A slot dropped changes a bank's driver in its waiting list alone (R110). -/
theorem dropWaiting_get (s : State) (k : Slot) (b : Bank) :
    (s.dropWaiting k).drivers.get b
      = { s.drivers.get b with waiting := (s.drivers.get b).waiting.filter fun e => e.slot != k } := by
  cases b <;> rfl

/-! ### The end of the firing opportunity of a record in the pool (R122, R123) -/

section

variable {s : State} {k : Slot} {r : Record} (h : s.pool.find k = some r)
  (o : Outcome) (cycle : Word16) (start : Option Time) (d : Nat) (noRise : Bool)

include h

/-- The opportunity ends with the retirement, and with the report of what it did when one is called for. -/
theorem endOpportunity_of_find :
    s.endOpportunity k o cycle start d noRise
      = if reportCalled o r r.shortened then
          (s.retire k r).1.append r.owner.link
            (r.firingReport k o cycle start d noRise (s.retire k r).2.1 (s.retire k r).2.2)
        else (s.retire k r).1 := by
  unfold endOpportunity
  rw [h]
  rfl

/-- The report leaves the pool as the retirement made it. -/
theorem endOpportunity_pool : (s.endOpportunity k o cycle start d noRise).pool = (s.retire k r).1.pool := by
  rw [endOpportunity_of_find h]
  split
  · exact append_pool _ _ _
  · rfl

/-- The report leaves the drivers as the retirement made them. -/
theorem endOpportunity_drivers :
    (s.endOpportunity k o cycle start d noRise).drivers = (s.dropWaiting k).drivers := by
  rw [endOpportunity_of_find h, ← retire_drivers s k r]
  split
  · exact append_drivers _ _ _
  · rfl

/-- With no report called for, the links stand as they were. -/
theorem endOpportunity_links_silent (hsilent : ¬ reportCalled o r r.shortened = true) :
    (s.endOpportunity k o cycle start d noRise).links = s.links := by
  rw [endOpportunity_of_find h, if_neg hsilent, retire_links]

/-- With a report called for, it is appended to the owner's log and the links change in nothing else. -/
theorem endOpportunity_links_reported (hcalled : reportCalled o r r.shortened = true) :
    (s.endOpportunity k o cycle start d noRise).links
      = (s.append r.owner.link
          (r.firingReport k o cycle start d noRise (s.retire k r).2.1 (s.retire k r).2.2)).links := by
  rw [endOpportunity_of_find h, if_pos hcalled]
  exact append_links_congr (retire_links s k r) _ _

end

end State

open State in
/-- Settles O55: the pool by the three retirements, the links by whether a report is called for, the rest untouched. -/
theorem firingOpportunityEnds : Obligations.FiringOpportunityEnds := by
  unfold Obligations.FiringOpportunityEnds
  intro s k r o cycle start d noRise h u frees report called
  have hpool : u.pool = (s.retire k r).1.pool := endOpportunity_pool h o cycle start d noRise
  have hdrivers : u.drivers = (s.dropWaiting k).drivers := endOpportunity_drivers h o cycle start d noRise
  have hcalled : reportCalled o r r.shortened = true ↔ called := reportCalled_iff o r r.shortened
  have hreported (hc : called) :
      u.links = (s.append r.owner.link (report (s.retire k r).2.1 (s.retire k r).2.2)).links :=
    endOpportunity_links_reported h o cycle start d noRise (hcalled.mpr hc)
  refine ⟨fun hfrees => ?freed, fun hkept hrepeats => ?counted, fun hkept hzero => ?standing, fun b => ?waiting, ?fire,
    fun hsilent => ?silent, fun hc hfrees => ?reportedFreed, fun hc hkept => ?reportedKept, endOpportunity_table ..,
    endOpportunity_limits .., endOpportunity_faults .., endOpportunity_clock .., endOpportunity_staging ..,
    endOpportunity_marks .., endOpportunity_engine .., endOpportunity_timeBase .., endOpportunity_pending ..⟩
  case freed =>
    rw [hpool, retire_freed s k hfrees]
    exact Pool.freeRecord_of_find h
  case counted =>
    rw [hpool, retire_counted s k hkept hrepeats]
    rfl
  case standing =>
    rw [hpool, retire_standing s k hkept hzero]
    rfl
  case waiting => rw [hdrivers, dropWaiting_get]
  case fire => rw [hdrivers, dropWaiting_fire]
  case silent => exact endOpportunity_links_silent h o cycle start d noRise (mt hcalled.mp hsilent)
  case reportedFreed => rw [hreported hc, retire_freed s k hfrees]
  case reportedKept => rw [hreported hc, retire_kept_reported s k hkept]

end Sys2Proof.Machine
end

section
/-! PROOF. NOP answers on every link and changes nothing else (O17). -/

namespace Sys2Proof.Machine

/-- NOP is one of the commands that every link may carry (section 9.5). -/
theorem permitted_nop (l : Link) : permitted .nop l = true := rfl

/-- Settles O17: the frame is taken on whichever link carries it, and its effect leaves the state it arrives in as it is. -/
theorem nopAnswersOk : Obligations.NopAnswersOk := by
  unfold Obligations.NopAnswersOk
  intro t l s hl
  have htaken : s.onFrame t l .nop (fun a => (a, .ok, 0)) = (s.arrive t).respond l .ok (commandCode .nop) 0 :=
    State.onFrame_taken s t l .nop _ hl (permitted_nop l)
  calc exec (.nop t l) s
      = .next (s.onFrame t l .nop fun a => (a, .ok, 0)) := rfl
    _ = .next ((s.arrive t).respond l .ok 0x01 0) := congrArg Host.Outcome.next htaken

end Sys2Proof.Machine
end

section
/-! PROOF. CONFIG_READ answers the valid flag and the item as last written, in the form CONFIG_WRITE takes (O42). -/

namespace Sys2Proof.Machine

/-! ### The bytes of response data and of a carried value (R161, R162) -/

/-- Each bit of packed data is a bit of the byte that stands there, byte 0 the most significant (R162). -/
theorem getLsbD_dataOf (bs : List Byte) {j : Nat} (hj : j < 72) :
    (dataOf bs).getLsbD j = (bs.getD (8 - j / 8) 0).getLsbD (j % 8) := by
  have hnine : dataOf bs = dataOf ((List.range 9).map fun i => bs.getD i 0) := rfl
  rw [hnine]
  simp only [List.range, List.range.loop, List.map, dataOf_nine, BitVec.getLsbD_append]
  interval_cases j <;> rfl

/-- The first byte stands in front of what the other bytes give (R162). -/
theorem dataOf_cons (b : Byte) (bs : List Byte) : dataOf (b :: bs) = b ++ (dataOf bs).extractLsb' 8 64 := by
  apply BitVec.eq_of_getLsbD_eq
  intro j hj
  rw [getLsbD_dataOf _ hj, BitVec.getLsbD_append]
  by_cases hlow : j < 64
  · have hindex : 8 - j / 8 = 8 - (8 + j) / 8 + 1 := by omega
    have hbit : (8 + j) % 8 = j % 8 := by omega
    simp [hlow, getLsbD_dataOf bs (show 8 + j < 72 by omega), hindex, hbit]
  · have hindex : 8 - j / 8 = 0 := by omega
    have hbit : j % 8 = j - 64 := by omega
    simp [hlow, hindex, hbit]

/-- The first `n` bytes of a carried value. -/
def firstBytes (value : Data) (n : Nat) : List Byte := (List.range n).map (dataByte value)

/-- A byte among the first `n` is the value's, and none stands behind them. -/
theorem getD_firstBytes (value : Data) (n i : Nat) :
    (firstBytes value n).getD i 0 = if i < n then dataByte value i else 0 := by
  rw [firstBytes, List.getD_eq_getElem?_getD, List.getElem?_map]
  split
  next h => rw [List.getElem?_range h, Option.map_some, Option.getD_some]
  next h => rw [List.getElem?_eq_none (by simpa using h), Option.map_none, Option.getD_none]

/-- The first bytes of a value, packed again, are the value with the bits behind them cleared. -/
theorem dataOf_firstBytes (value : Data) (n : Nat) :
    (dataOf (firstBytes value n)).extractLsb' 8 64
      = value.extractLsb' 8 64 &&& (BitVec.allOnes 64 <<< (64 - 8 * n)) := by
  apply BitVec.eq_of_getLsbD_eq
  intro j hj
  have hplace : 64 - 8 * (8 - (8 + j) / 8) + (8 + j) % 8 = 8 + j := by omega
  rw [BitVec.getLsbD_extractLsb', getLsbD_dataOf _ (by omega), getD_firstBytes, BitVec.getLsbD_and,
    BitVec.getLsbD_shiftLeft, BitVec.getLsbD_allOnes, BitVec.getLsbD_extractLsb']
  by_cases h : 8 - (8 + j) / 8 < n
  · have hkept : ¬ j < 64 - 8 * n := by omega
    have hmask : j - (64 - 8 * n) < 64 := by omega
    rw [if_pos h, dataByte, BitVec.getLsbD_extractLsb', hplace]
    simp [hj, hkept, hmask, Nat.mod_lt]
  · have hcleared : j < 64 - 8 * n := by omega
    rw [if_neg h]
    simp [hcleared]

/-! ### Values read back as they were carried (R165, R169) -/

/-- A byte taken as a number and packed again is the byte. -/
theorem byte_toNat (b : Byte) : byte b.toNat = b := by
  rw [byte, BitVec.ofNat_toNat, BitVec.setWidth_eq]

/-- The number in two bytes fits them. -/
theorem dataWord_lt (value : Data) (i : Nat) : dataWord value i < 2 ^ 16 := by
  have hhigh := (dataByte value i).isLt
  have hlow := (dataByte value (i + 1)).isLt
  unfold dataWord
  omega

/-- The number in two bytes of a value, packed again, is those two bytes. -/
theorem bytes2_dataWord (value : Data) (i : Nat) :
    bytes2 (dataWord value i) = [dataByte value i, dataByte value (i + 1)] := by
  have hlow := (dataByte value (i + 1)).isLt
  have hdiv : dataWord value i / 256 = (dataByte value i).toNat := by
    unfold dataWord
    omega
  have hmod : byte (dataWord value i) = byte (dataByte value (i + 1)).toNat := by
    apply BitVec.eq_of_toNat_eq
    rw [byte, byte, BitVec.toNat_ofNat, BitVec.toNat_ofNat, dataWord]
    omega
  rw [bytes2, hdiv, hmod, byte_toNat, byte_toNat]

/-- The signed number in two bytes of a value, packed again, is those two bytes. -/
theorem signed2_dataSigned (value : Data) (i : Nat) :
    signed2 (dataSigned value i) = [dataByte value i, dataByte value (i + 1)] := by
  rw [signed2, dataSigned, BitVec.ofInt_toInt, BitVec.toNat_ofNat, Nat.mod_eq_of_lt (dataWord_lt value i),
    bytes2_dataWord]

/-- A number of one byte is packed again into the value's first byte. -/
theorem bytes_of_number (value : Data) : [byte (dataByte value 0).toNat] = firstBytes value 1 := by
  rw [byte_toNat]
  rfl

/-- A number of two bytes is packed again into the value's first two bytes. -/
theorem bytes_of_word (value : Data) : bytes2 (dataWord value 0) = firstBytes value 2 := bytes2_dataWord value 0

/-- Two numbers of two bytes are packed again into the value's first four bytes. -/
theorem bytes_of_words (value : Data) :
    bytes2 (dataWord value 0) ++ bytes2 (dataWord value 2) = firstBytes value 4 := by
  rw [bytes2_dataWord, bytes2_dataWord]
  rfl

/-- A value taken through a range is the value itself (R167). -/
theorem eq_of_inRange {lo hi n m : Nat} (h : inRange lo hi n = some m) : n = m := by
  unfold inRange at h
  split at h
  · exact Option.some.inj h
  · cases h

/-- A kind window taken from a value is packed again into the value's first four bytes (R165). -/
theorem bytes_of_windowOf {value : Data} {w : Window} (h : windowOf value = some w) :
    w.bytes = firstBytes value 4 := by
  unfold windowOf at h
  dsimp only at h
  split at h
  · obtain rfl := Option.some.inj h
    rw [Window.bytes, signed2_dataSigned, signed2_dataSigned]
    rfl
  · cases h

/-- An entry of the firing order is packed again into the byte it was taken from (R165). -/
theorem byte_of_orderEntry {b : Byte} {e : Fin 9} (h : orderEntry b = some e) : byte e.val = b := by
  unfold orderEntry at h
  split at h
  · obtain rfl := Option.some.inj h
    exact byte_toNat b
  · cases h

/-- A firing order taken from a value is packed again into the value's first eight bytes (R165). -/
theorem bytes_of_orderOf {value : Data} {o : Vector (Fin 9) 8} (h : orderOf value = some o) :
    (o.toList.map fun e => byte e.val) = firstBytes value 8 := by
  simp only [orderOf, bind, Option.bind_eq_some_iff, pure, Option.some.injEq] at h
  obtain ⟨e0, h0, e1, h1, e2, h2, e3, h3, e4, h4, e5, h5, e6, h6, e7, h7, rfl⟩ := h
  simp [firstBytes, List.range, List.range.loop, byte_of_orderEntry h0, byte_of_orderEntry h1, byte_of_orderEntry h2,
    byte_of_orderEntry h3, byte_of_orderEntry h4, byte_of_orderEntry h5, byte_of_orderEntry h6, byte_of_orderEntry h7]

/-! ### The configuration as the list of its eighteen items (R165) -/

/-- How many bytes the value of an item takes (R165). -/
def itemWidth (item : Nat) : Nat :=
  match item with
  | 1 | 3 | 17 | 18 => 1
  | 2 => 8
  | 5 | 13 | 14 | 15 | 16 => 4
  | _ => 2

namespace EngineConfig

/-- The values of items 1 to 18 in the form CONFIG_WRITE takes. -/
def items (c : EngineConfig) : List (List Byte) :=
  [[byte c.cylinderCount], c.firingOrder.toList.map fun e => byte e.val, [c.bankMap], bytes2 c.tdc1,
    bytes2 c.camLo ++ bytes2 c.camHi, bytes2 c.lead, bytes2 c.speed, bytes2 c.minDwell, bytes2 c.bankRecovery,
    bytes2 c.maxSlip, bytes2 c.peakDeadline, bytes2 c.stallTimeout, c.preWindow.bytes, c.mainWindow.bytes,
    c.afterWindow.bytes, c.lateWindow.bytes, [byte c.cap], [byte c.carryLimit]]

/-- No item has code 0 (R165). -/
theorem read_zero (c : EngineConfig) : c.read 0 = none := rfl

/-- An item code reads the item of its place in the list, and none past its end (R169). -/
theorem read_succ (c : EngineConfig) (k : Nat) : c.read (k + 1) = c.items[k]? := by
  match k with
  | 0 | 1 | 2 | 3 | 4 | 5 | 6 | 7 | 8 | 9 | 10 | 11 | 12 | 13 | 14 | 15 | 16 | 17 => rfl
  | _ + 18 => rfl

/-- An item code not 1 to 18 reads nothing (R169). -/
theorem read_outside (c : EngineConfig) {item : Nat} (h : item = 0 ∨ 18 < item) : c.read item = none := by
  cases item with
  | zero => exact c.read_zero
  | succ k =>
    have hpast : c.items.length ≤ k := show 18 ≤ k by omega
    rw [read_succ, List.getElem?_eq_none hpast]

/-- An item code of 1 to 18 reads some bytes (R169). -/
theorem read_inside (c : EngineConfig) {item : Nat} (h1 : 1 ≤ item) (h18 : item ≤ 18) : ∃ bs, c.read item = some bs := by
  obtain ⟨k, rfl⟩ := Nat.exists_eq_add_of_le' h1
  have hwithin : k < c.items.length := show k < 18 by omega
  exact ⟨_, (c.read_succ k).trans (List.getElem?_eq_getElem hwithin)⟩

/-- Only items 1 to 18 can be written (R167). -/
theorem write_inside {c c' : EngineConfig} {item : Nat} {value : Data} (h : c.write item value = some c') :
    1 ≤ item ∧ item ≤ 18 := by
  unfold write at h
  split at h
  case h_19 => cases h
  all_goals decide

/-- A write puts the bytes of the carried value in the item's place, and touches no other item (R167). -/
theorem items_of_write {c c' : EngineConfig} {item : Nat} {value : Data} (h : c.write item value = some c') :
    c'.items = c.items.set (item - 1) (firstBytes value (itemWidth item)) := by
  unfold write at h
  split at h
  case h_1 =>
    obtain ⟨-, h⟩ := Option.ite_none_right_eq_some.mp h
    obtain rfl := Option.some.inj h
    change _ = c.items.set _ (firstBytes value 1)
    rw [← bytes_of_number]
    rfl
  case h_2 =>
    obtain ⟨o, ho, rfl⟩ := Option.map_eq_some_iff.mp h
    change _ = c.items.set _ (firstBytes value 8)
    rw [← bytes_of_orderOf ho]
    rfl
  case h_3 =>
    obtain rfl := Option.some.inj h
    rfl
  case h_5 =>
    obtain ⟨lo, hlo, h⟩ := Option.bind_eq_some_iff.mp h
    obtain ⟨hi, hhi, rfl⟩ := Option.map_eq_some_iff.mp h
    change _ = c.items.set _ (firstBytes value 4)
    rw [← bytes_of_words, eq_of_inRange hlo, eq_of_inRange hhi]
    rfl
  case h_13 | h_14 | h_15 | h_16 =>
    obtain ⟨w, hw, rfl⟩ := Option.map_eq_some_iff.mp h
    change _ = c.items.set _ (firstBytes value 4)
    rw [← bytes_of_windowOf hw]
    rfl
  case h_17 | h_18 =>
    obtain ⟨n, hn, rfl⟩ := Option.map_eq_some_iff.mp h
    change _ = c.items.set _ (firstBytes value 1)
    rw [← bytes_of_number, eq_of_inRange hn]
    rfl
  case h_19 => cases h
  all_goals
    obtain ⟨n, hn, rfl⟩ := Option.map_eq_some_iff.mp h
    change _ = c.items.set _ (firstBytes value 2)
    rw [← bytes_of_word, eq_of_inRange hn]
    rfl

/-- An item reads as it was last written (R169). -/
theorem read_of_write {c c' : EngineConfig} {item : Nat} {value : Data} (h : c.write item value = some c') :
    c'.read item = some (firstBytes value (itemWidth item)) := by
  obtain ⟨h1, h18⟩ := write_inside h
  have hitems := items_of_write h
  obtain ⟨k, rfl⟩ := Nat.exists_eq_add_of_le' h1
  have hwithin : k < c.items.length := show k < 18 by omega
  rw [read_succ, hitems, Nat.add_sub_cancel, List.getElem?_set_self hwithin]

/-- Every other item reads as it did before the write (R167). -/
theorem read_of_write_of_ne {c c' : EngineConfig} {item other : Nat} {value : Data} (h : c.write item value = some c')
    (hne : other ≠ item) : c'.read other = c.read other := by
  have h1 := (write_inside h).1
  cases other with
  | zero => rfl
  | succ k =>
    have hplace : item - 1 ≠ k := by omega
    rw [read_succ, read_succ, items_of_write h, List.getElem?_set_ne hplace]

end EngineConfig

/-! ### CONFIG_READ (R169) -/

/-- CONFIG_READ is a command of the supervisor link alone (section 9.5). -/
theorem permitted_configRead (l : Link) : permitted .configRead l = true ↔ l = .supervisor := beq_iff_eq

/-- The byte of the valid flag: seven clear bits and the flag (R162). -/
theorem byte_bitAt_zero (b : Bool) : byte (bitAt b 0) = 0#7 ++ BitVec.ofBool b := by
  cases b <;> rfl

/-- On a link that may not carry it: NOT_PERMITTED. -/
theorem exec_configRead_notPermitted {t : Time} {l : Link} {s : State} (item : Byte) (hl : (s.arrive t).listens l)
    (hlink : l ≠ .supervisor) :
    exec (.configRead t l item) s = .next ((s.arrive t).respond l .notPermitted 0x2D 0) := by
  have hnot : permitted .configRead l = false := Bool.not_eq_true _ ▸ mt (permitted_configRead l).mp hlink
  exact congrArg Host.Outcome.next (State.onFrame_refused s t l .configRead (fun a => a.configRead item) hl hnot)

section

variable {t : Time} {item : Byte} {s : State} (hl : (s.arrive t).listens .supervisor)

include hl

/-- On the supervisor link: the answer of the state it arrives in. -/
theorem exec_configRead_taken :
    exec (.configRead t .supervisor item) s
      = .next (((s.arrive t).configRead item).1.respond .supervisor ((s.arrive t).configRead item).2.1 0x2D
          ((s.arrive t).configRead item).2.2) :=
  congrArg Host.Outcome.next
    (State.onFrame_taken s t .supervisor .configRead (fun a => a.configRead item) hl ((permitted_configRead _).mpr rfl))

/-- A code that reads nothing: BAD_ARGUMENT. -/
theorem exec_configRead_badArgument (hread : (s.arrive t).engine.config.read item.toNat = none) :
    exec (.configRead t .supervisor item) s = .next ((s.arrive t).respond .supervisor .badArgument 0x2D 0) := by
  have hanswer : (s.arrive t).configRead item = (s.arrive t, .badArgument, 0) := by
    unfold State.configRead
    rw [hread]
    rfl
  rw [exec_configRead_taken hl, hanswer]

/-- A code that reads some bytes: the valid flag and those bytes, and no change but the response. -/
theorem exec_configRead_ok {bs : List Byte} (hread : (s.arrive t).engine.config.read item.toNat = some bs) :
    exec (.configRead t .supervisor item) s
      = .next ((s.arrive t).respond .supervisor .ok 0x2D
          ((0#7 ++ BitVec.ofBool (s.arrive t).engine.valid) ++ (dataOf bs).extractLsb' 8 64)) := by
  have hanswer : (s.arrive t).configRead item
      = (s.arrive t, .ok, (0#7 ++ BitVec.ofBool (s.arrive t).engine.valid) ++ (dataOf bs).extractLsb' 8 64) := by
    unfold State.configRead
    rw [hread, ← byte_bitAt_zero, ← dataOf_cons]
  rw [exec_configRead_taken hl, hanswer]

end

/-- Settles O42: the configuration is the list of its items, in which a write sets one place that a read returns. -/
theorem configRead : Obligations.ConfigRead := by
  unfold Obligations.ConfigRead
  constructor
  · intro t l item s a hl
    refine ⟨exec_configRead_notPermitted item hl, ?outside, ?inside⟩
    case outside =>
      rintro rfl hitem
      have hcode : item.toNat = 0 ∨ 18 < item.toNat := hitem.imp_left (congrArg BitVec.toNat)
      exact exec_configRead_badArgument hl (EngineConfig.read_outside _ hcode)
    case inside =>
      rintro rfl h1 h18
      obtain ⟨bs, hread⟩ := EngineConfig.read_inside a.engine.config h1 h18
      exact ⟨_, exec_configRead_ok hl hread⟩
  · intro c c' item value hwrite width
    refine ⟨fun t s hl hheld => ?_, fun _ => EngineConfig.read_of_write_of_ne hwrite⟩
    have hwidth : width = itemWidth item.toNat := rfl
    have hread : (s.arrive t).engine.config.read item.toNat = some (firstBytes value width) := by
      rw [hheld, hwidth]
      exact EngineConfig.read_of_write hwrite
    rw [exec_configRead_ok hl hread, dataOf_firstBytes]

end Sys2Proof.Machine
end

section
/-! PROOF. The slots of the pool: finding a record after each pool operation, and the partition of the forty slots (R38). -/

namespace Sys2Proof.Machine
namespace Pool

/-! ### The slots of the cylinder lists -/

/-- The slots that stand in a cylinder list, in the order of the records. -/
def slots (p : Pool) : List Slot := p.records.map fun r => r.slot

/-- With every slot in one home, no slot stands in two places of the cylinder lists. -/
theorem partitioned_slots_nodup {p : Pool} (h : p.partitioned) : p.slots.Nodup := by
  refine List.nodup_iff_count_le_one.mpr fun k => ?_
  have hk : p.homes.count k = 1 := h k (List.mem_finRange k)
  simp only [homes, List.count_append] at hk
  simp only [slots]
  omega

/-- With no slot twice in the cylinder lists, a record is the one found at its slot. -/
theorem find_of_mem {p : Pool} (h : p.slots.Nodup) {r : Record} (hr : r ∈ p.records) : p.find r.slot = some r := by
  cases hf : p.find r.slot with
  | none => exact absurd rfl (find_none.mp hf r hr)
  | some x =>
    obtain ⟨hx, hslot⟩ := find_some hf
    rw [List.inj_on_of_nodup_map h hx hr hslot]

/-! ### Finding after an operation -/

/-- A record changed in its place, its slot kept, is found changed, and every other as it was. -/
theorem find_update (p : Pool) (k j : Slot) {f : Record → Record} (hf : ∀ r, (f r).slot = r.slot) :
    (p.update k f).find j = if j = k then (p.find k).map f else p.find j := by
  have hkey (r : Record) : (if r.slot = k then f r else r).slot = r.slot := by split <;> simp [hf]
  simp only [find, records_update, List.find?_map, Function.comp_def, hkey]
  split
  · next hj =>
    subst hj
    cases hx : p.records.find? fun r => r.slot == j with
    | none => rfl
    | some r => simp [show r.slot = j by simpa using List.find?_some hx]
  · next hj =>
    cases hx : p.records.find? fun r => r.slot == j with
    | none => rfl
    | some r => simp [show r.slot = j by simpa using List.find?_some hx, hj]

/-- A slot unlinked is found no more, and every other as it was. -/
theorem find_unlink (p : Pool) (k j : Slot) : (p.unlink k).find j = if j = k then none else p.find j := by
  simp only [find, records_unlink, List.find?_filter]
  split
  · next hj =>
    subst hj
    simp
  · next hj =>
    congr 1
    funext r
    by_cases hr : r.slot = j
    · simp [hr, hj]
    · simp [hr]

/-- A freed slot is found no more, and every other as it was. -/
theorem find_freeRecord (p : Pool) (k j : Slot) : (p.freeRecord k).find j = if j = k then none else p.find j := by
  unfold freeRecord
  split
  · exact find_unlink p k j
  · next hk =>
    split
    · next hj => rw [hj, hk]
    · rfl

/-- A quarantined slot is found no more, and every other as it was. -/
theorem find_quarantineRecord (p : Pool) (k j : Slot) :
    (p.quarantineRecord k).find j = if j = k then none else p.find j := by
  unfold quarantineRecord
  split
  · exact find_unlink p k j
  · next hk =>
    split
    · next hj => rw [hj, hk]
    · rfl

/-- A record put into a list, at a slot that no record held, is found there, and every other as it was. -/
theorem find_insert {p : Pool} {r : Record} (hp : p.slots.Nodup) (hfree : p.find r.slot = none) (j : Slot) :
    (p.insert r).find j = if j = r.slot then some r else p.find j := by
  have hperm := records_insert p r
  have hnodup : (p.insert r).slots.Nodup := by
    refine ((hperm.map fun x => x.slot).nodup_iff).mpr ?_
    refine List.nodup_cons.mpr ⟨fun hmem => ?_, hp⟩
    obtain ⟨x, hx, hslot⟩ := List.mem_map.mp hmem
    exact find_none.mp hfree x hx hslot
  have hmem (x : Record) : x ∈ (p.insert r).records ↔ x = r ∨ x ∈ p.records := by rw [hperm.mem_iff, List.mem_cons]
  split
  · next hj => exact hj ▸ find_of_mem hnodup ((hmem r).mpr (.inl rfl))
  · next hj =>
    cases hx : p.find j with
    | none =>
      refine find_none.mpr fun x hx' hslot => ?_
      obtain rfl | hin := (hmem x).mp hx'
      · exact hj hslot.symm
      · exact find_none.mp hx x hin hslot
    | some x =>
      obtain ⟨hin, hslot⟩ := find_some hx
      exact hslot ▸ find_of_mem hnodup ((hmem x).mpr (.inr hin))

/-! ### Records changed all over, or moved within their list -/

/-- The pool with every record changed in its place. -/
def mapAll (p : Pool) (f : Record → Record) : Pool := { p with lists := p.lists.map fun _ l => l.map f }

theorem records_mapAll (p : Pool) (f : Record → Record) : (p.mapAll f).records = p.records.map f := by
  simp [records, mapAll, Eight.toList, Eight.map]

/-- Records changed with their slots kept are found changed. -/
theorem find_mapAll (p : Pool) {f : Record → Record} (hf : ∀ r, (f r).slot = r.slot) (j : Slot) :
    (p.mapAll f).find j = (p.find j).map f := by
  simp only [find, records_mapAll, List.find?_map, Function.comp_def, hf]

/-- One list of the pool after an amended record has moved. -/
def movedList (r : Record) (l : List Record) : List Record :=
  if l.any fun x => x.slot == r.slot then insertByOffset r (l.filter fun x => x.slot != r.slot) else l

theorem moveInList_lists (p : Pool) (r : Record) (c : Cylinder) :
    (p.moveInList r).lists.get c = movedList r (p.lists.get c) := by
  rw [moveInList, Eight.get_map]
  rfl

/-- Filtering a slot out and putting one entry of it back keeps the slots of a list that held it once. -/
theorem movedList_slots_perm (r : Record) {l : List Record} (h : (l.map fun x => x.slot).Nodup) :
    ((movedList r l).map fun x => x.slot).Perm (l.map fun x => x.slot) := by
  unfold movedList
  split
  · next hany =>
    obtain ⟨x, hx, hslot⟩ := List.any_eq_true.mp hany
    have hmem : r.slot ∈ l.map fun x => x.slot := List.mem_map.mpr ⟨x, hx, by simpa using hslot⟩
    have hfilter : (l.filter fun x => x.slot != r.slot).map (fun x => x.slot)
        = (l.map fun x => x.slot).erase r.slot := by
      rw [h.erase_eq_filter, List.filter_map]
      rfl
    refine ((insertByOffset_perm r _).map fun x => x.slot).trans ?_
    rw [List.map_cons, hfilter]
    exact (List.perm_cons_erase hmem).symm
  · exact .refl _

/-- Every record of a list but the one moved stands in it before and after the move. -/
theorem mem_movedList {r x : Record} {l : List Record} :
    x ∈ movedList r l ↔ (x ∈ l ∧ x.slot ≠ r.slot) ∨ (x = r ∧ ∃ y ∈ l, y.slot = r.slot) := by
  unfold movedList
  split
  · next hany =>
    have hy : ∃ y ∈ l, y.slot = r.slot := by simpa using hany
    rw [(insertByOffset_perm r _).mem_iff, List.mem_cons, List.mem_filter]
    simp [hy, or_comm]
  · next hany =>
    have hy : ¬ ∃ y ∈ l, y.slot = r.slot := by simpa using hany
    have hx : x ∈ l → x.slot ≠ r.slot := fun hx hslot => hy ⟨x, hx, hslot⟩
    simp only [hy, and_false, or_false]
    exact ⟨fun h => ⟨h, hx h⟩, fun h => h.1⟩

/-- The slots of the pool are those of the eight lists, one after the other. -/
theorem slots_eq_flatten (p : Pool) : p.slots = (p.lists.toList.map fun l => l.map fun r => r.slot).flatten := by
  rw [slots, records, List.map_flatten]

/-- Eight lists whose entries are permuted one by one make a permuted whole. -/
theorem toList_flatten_perm {α : Type} {v w : Eight (List α)} (h : ∀ c, (v.get c).Perm (w.get c)) :
    v.toList.flatten.Perm w.toList.flatten := by
  have h0 := h 0; have h1 := h 1; have h2 := h 2; have h3 := h 3
  have h4 := h 4; have h5 := h 5; have h6 := h 6; have h7 := h 7
  simp only [Eight.get] at h0 h1 h2 h3 h4 h5 h6 h7
  simp only [Eight.toList, List.flatten_cons, List.flatten_nil, List.append_nil]
  exact h0.append (h1.append (h2.append (h3.append (h4.append (h5.append (h6.append h7))))))

theorem slots_eq_toList (p : Pool) : p.slots = (p.lists.map fun _ l => l.map fun r => r.slot).toList.flatten := by
  simp [slots, records, Eight.toList, Eight.map]

/-- The slots of one list are without repetition when those of the pool are. -/
theorem list_slots_nodup {p : Pool} (h : p.slots.Nodup) (c : Cylinder) : ((p.lists.get c).map fun r => r.slot).Nodup := by
  rw [slots_eq_flatten] at h
  refine (List.nodup_flatten.mp h).1 _ (List.mem_map.mpr ⟨_, (Eight.mem_toList _ _).mpr ⟨c, rfl⟩, rfl⟩)

/-- Moving an amended record keeps the slots of the cylinder lists. -/
theorem moveInList_slots_perm {p : Pool} (h : p.slots.Nodup) (r : Record) : (p.moveInList r).slots.Perm p.slots := by
  rw [slots_eq_toList, slots_eq_toList]
  refine toList_flatten_perm fun c => ?_
  rw [Eight.get_map, Eight.get_map, moveInList_lists]
  exact movedList_slots_perm r (list_slots_nodup h c)

/-- An amended record that stands in the pool is found as amended after its move, and every other as it was. -/
theorem find_moveInList {p : Pool} (h : p.slots.Nodup) {r x : Record} (hx : p.find r.slot = some x) (j : Slot) :
    (p.moveInList r).find j = if j = r.slot then some r else p.find j := by
  have hnodup : (p.moveInList r).slots.Nodup := (moveInList_slots_perm h r).nodup_iff.mpr h
  obtain ⟨hxmem, hxslot⟩ := find_some hx
  obtain ⟨c, hc⟩ := (mem_records p x).mp hxmem
  have hmem (y : Record) : y ∈ (p.moveInList r).records ↔ (y ∈ p.records ∧ y.slot ≠ r.slot) ∨ y = r := by
    simp only [mem_records, moveInList_lists, mem_movedList]
    constructor
    · rintro ⟨d, ⟨hy, hne⟩ | ⟨rfl, -⟩⟩
      · exact .inl ⟨⟨d, hy⟩, hne⟩
      · exact .inr rfl
    · rintro (⟨⟨d, hy⟩, hne⟩ | rfl)
      · exact ⟨d, .inl ⟨hy, hne⟩⟩
      · exact ⟨c, .inr ⟨rfl, x, hc, hxslot⟩⟩
  split
  · next hj => exact hj ▸ find_of_mem hnodup ((hmem r).mpr (.inr rfl))
  · next hj =>
    cases hf : p.find j with
    | none =>
      refine find_none.mpr fun y hy hslot => ?_
      obtain ⟨hin, -⟩ | rfl := (hmem y).mp hy
      · exact find_none.mp hf y hin hslot
      · exact hj hslot.symm
    | some y =>
      obtain ⟨hin, hslot⟩ := find_some hf
      exact hslot ▸ find_of_mem hnodup ((hmem y).mpr (.inl ⟨hin, hslot ▸ hj⟩))

/-! ### The partition (R38) -/

theorem homes_eq (p : Pool) : p.homes = p.free ++ p.slots ++ p.quarantine.map fun r => r.slot := rfl

/-- A pool with the same homes, in whatever order, is as well partitioned. -/
theorem partitioned_of_perm {p q : Pool} (h : q.homes.Perm p.homes) (hp : p.partitioned) : q.partitioned :=
  fun k hk => (h.count_eq k).trans (hp k hk)

/-- Records changed in place with their slots kept leave every slot where it was. -/
theorem update_slots (p : Pool) (k : Slot) {f : Record → Record} (hf : ∀ r, (f r).slot = r.slot) :
    (p.update k f).slots = p.slots := by
  have hkey (r : Record) : (if r.slot = k then f r else r).slot = r.slot := by split <;> simp [hf]
  simp only [slots, records_update, List.map_map, Function.comp_def, hkey]

theorem mapAll_slots (p : Pool) {f : Record → Record} (hf : ∀ r, (f r).slot = r.slot) : (p.mapAll f).slots = p.slots := by
  simp only [slots, records_mapAll, List.map_map, Function.comp_def, hf]

theorem unlink_slots {p : Pool} (h : p.slots.Nodup) (k : Slot) : (p.unlink k).slots = p.slots.erase k := by
  rw [slots, slots, records_unlink, ← slots, h.erase_eq_filter, slots, List.filter_map]
  rfl

/-- A slot found and unlinked stands once in front of the slots left. -/
theorem slots_perm_unlink {p : Pool} (h : p.slots.Nodup) {k : Slot} {r : Record} (hr : p.find k = some r) :
    p.slots.Perm (k :: (p.unlink k).slots) := by
  obtain ⟨hmem, hslot⟩ := find_some hr
  rw [unlink_slots h]
  exact List.perm_cons_erase (List.mem_map.mpr ⟨r, hmem, hslot⟩)

theorem partitioned_update {p : Pool} (k : Slot) {f : Record → Record} (hf : ∀ r, (f r).slot = r.slot)
    (hp : p.partitioned) : (p.update k f).partitioned := by
  refine partitioned_of_perm ?_ hp
  rw [homes_eq, homes_eq, update_slots p k hf]
  exact .refl _

theorem partitioned_mapAll {p : Pool} {f : Record → Record} (hf : ∀ r, (f r).slot = r.slot) (hp : p.partitioned) :
    (p.mapAll f).partitioned := by
  refine partitioned_of_perm ?_ hp
  rw [homes_eq, homes_eq, mapAll_slots p hf]
  exact .refl _

/-- A record freed moves its slot from its list to the free list (R50). -/
theorem partitioned_freeRecord {p : Pool} (k : Slot) (hp : p.partitioned) : (p.freeRecord k).partitioned := by
  cases hf : p.find k with
  | none => simpa [freeRecord, hf] using hp
  | some r =>
    rw [freeRecord_of_find hf]
    refine partitioned_of_perm ?_ hp
    have hperm := slots_perm_unlink (partitioned_slots_nodup hp) hf
    rw [homes_eq, homes_eq]
    refine List.Perm.append_right _ ?_
    exact (List.perm_middle.symm.trans (hperm.symm.append_left p.free))

/-- A quarantined record moves its slot from its list to the quarantine list (R47). -/
theorem partitioned_quarantineRecord {p : Pool} (k : Slot) (hp : p.partitioned) :
    (p.quarantineRecord k).partitioned := by
  cases hf : p.find k with
  | none => simpa [quarantineRecord, hf] using hp
  | some r =>
    rw [quarantineRecord_of_find hf]
    refine partitioned_of_perm ?_ hp
    have hperm := slots_perm_unlink (partitioned_slots_nodup hp) hf
    have hslot : r.slot = k := (find_some hf).2
    rw [homes_eq, homes_eq, List.perm_iff_count]
    intro a
    have ha := hperm.count_eq a
    simp only [List.count_cons, slots, records] at ha
    simp only [List.count_append, List.map_append, List.map_cons, List.map_nil, List.count_cons, List.count_nil, hslot,
      unlink_free, slots, records] at ha ⊢
    omega

/-- The scrubbed slots go from the quarantine list to the free list (R49). -/
theorem partitioned_scrub {p : Pool} (hp : p.partitioned) : p.scrub.partitioned := by
  refine partitioned_of_perm ?_ hp
  rw [homes_eq, homes_eq, List.perm_iff_count]
  intro a
  have hslots : p.scrub.slots = p.slots := rfl
  rw [hslots]
  simp only [scrub, List.count_append, List.count_reverse, List.map_nil, List.count_nil]
  omega

/-- A record put into a list at the slot popped from the free list (R39, R93). -/
theorem partitioned_fill {p : Pool} {r : Record} {rest : List Slot} (hfree : p.free = r.slot :: rest)
    (hp : p.partitioned) : (Pool.insert p.pop r).partitioned := by
  refine partitioned_of_perm ?_ hp
  have hslots : (Pool.insert p.pop r).slots.Perm (r.slot :: p.slots) :=
    (records_insert p.pop r).map (fun x : Record => x.slot)
  have htail : (Pool.insert p.pop r).free = rest := by rw [insert_free, pop_free, hfree, List.tail_cons]
  rw [homes_eq, homes_eq, htail, hfree]
  refine List.Perm.append_right _ ?_
  exact (hslots.append_left rest).trans List.perm_middle

/-- A free slot holds no record (R38). -/
theorem find_of_free {p : Pool} (hp : p.partitioned) {k : Slot} (hk : k ∈ p.free) : p.find k = none := by
  refine find_none.mpr fun r hr hslot => ?_
  have hcount : p.homes.count k = 1 := hp k (List.mem_finRange k)
  have h1 : 1 ≤ p.free.count k := List.one_le_count_iff.mpr hk
  have h2 : 1 ≤ p.slots.count k := List.one_le_count_iff.mpr (List.mem_map.mpr ⟨r, hr, hslot⟩)
  simp only [homes_eq, List.count_append] at hcount
  omega

theorem partitioned_moveInList {p : Pool} (r : Record) (hp : p.partitioned) : (p.moveInList r).partitioned := by
  refine partitioned_of_perm ?_ hp
  rw [homes_eq, homes_eq]
  exact ((moveInList_slots_perm (partitioned_slots_nodup hp) r).append_left p.free).append_right _

end Pool
end Sys2Proof.Machine
end

section
/-! PROOF. The elementary changes the part is made of, one after another, between two states in which the invariants hold; and the shared
operations as runs of them. -/

namespace Sys2Proof.Machine

/-- What every elementary change keeps of a record: its placed fields; its repeat is never raised (R41, R51, R98). -/
structure Record.Keeps (r r' : Record) : Prop where
  slot : r'.slot = r.slot
  owner : r'.owner = r.owner
  cylinder : r'.cylinder = r.cylinder
  kind : r'.kind = r.kind
  offset : r'.offset = r.offset
  start : r'.start = r.start
  duration : r'.duration = r.duration
  priority : r'.priority = r.priority
  repeats : r'.repeats ≤ r.repeats

/-- A change of a status entry that leaves bank, TDC and totals: the streak within its limit, the carry entry kept or cleared, the carry count
kept, cleared or counted up below its limit (R103, R104, R117). -/
structure CylinderStatus.Tended (running : Prop) (limit : Nat) (e e' : CylinderStatus) : Prop where
  bank : e'.bank = e.bank
  tdc : e'.tdc = e.tdc
  released : e'.released = e.released
  fired : e'.fired = e.fired
  lastFired : e'.lastFired = e.lastFired
  streak : e.streak ≤ 3 → e'.streak ≤ 3
  carry : e'.carry = e.carry ∨ e'.carry = none
  carryCount : e'.carryCount = e.carryCount ∨ e'.carryCount = 0
    ∨ (running ∧ e.carryCount < limit ∧ e'.carryCount = e.carryCount + 1)

/-- The end of a running pulse up to its report (R119, R123). -/
def State.closeBank (s : State) (b : Bank) (p : RunningPulse) (r : Record) (why : PulseEnd) : State :=
  ((((s.setBankState b (.recovery (after s.timeBase s.engine.config.bankRecovery))).negateFire r.cylinder).setCylinder
    r.cylinder (s.closePulse p r why (passedBy s.timeBase (s.actualStart r)))).retire p.slot r).1

/-- The elementary changes. A change that may set aside when a record can be RELEASED, or stop the clock, is one only where `wild` holds. -/
inductive Change (wild : Bool) : State → State → Prop
  | link (s : State) (l : Link) (p : LinkPort) (hbounded : s.linkBounded l → (s.setLink l p).linkBounded l)
      (hresponse : s.responseSound l → (s.setLink l p).responseSound l) : Change wild s (s.setLink l p)
  | faults (s : State) (x : FaultUnit) (hcapture : ∀ c, x.capture = some c → c.follow ≤ 255 ∨ s.faults.capture = some c)
      (hcalm : wild = true ∨ ((s.setFaults x).overspeedSuppression = true → s.overspeedSuppression = true)) :
      Change wild s (s.setFaults x)
  | staging (s : State) (x : Staging)
      (hbounded : (∀ o, s.portBounded o) → s.staging.fuelRun ≤ 4 → (∀ o, (s.setStaging x).portBounded o) ∧ x.fuelRun ≤ 4) :
      Change wild s (s.setStaging x)
  | limits (s : State) (x : Limits) (hbounded : s.limitsBounded → (s.setLimits x).limitsBounded)
      (hcalm : wild = true ∨ ((s.setLimits x).overspeedSuppression = true → s.overspeedSuppression = true)) :
      Change wild s (s.setLimits x)
  | marks (s : State) (x : Eight (Option MarkUnit)) : Change wild s (s.setMarks x)
  | clock (s : State) (x : Clock) (hsound : s.clockSound → (s.setClock x).clockSound)
      (hcalm : wild = true ∨ x.sync = s.clock.sync ∨ (s.clock.sync ≠ .synced ∧ x.sync ≠ .stopped)) :
      Change wild s (s.setClock x)
  | table (s : State) (x : Eight CylinderStatus)
      (htended : ∀ c, CylinderStatus.Tended (s.clock.sync = .synced) s.engine.config.carryLimit (s.table.get c) (x.get c)) :
      Change wild s (s.setTable x)
  | boundary (s : State) (c : Cylinder) :
      Change wild s
        (s.setCylinder c { s.table.get c with lastFired := (s.table.get c).fired, fired := 0, released := 0 })
  | free (s : State) (k : Slot) (hidle : s.pool.partitioned → ∀ r, s.pool.find k = some r → r.isFiring = false) :
      Change wild s (s.freeSlot k)
  | returned (s : State) (k : Slot) (f : Record → Record)
      (hidle : s.pool.partitioned → ∀ r, s.pool.find k = some r → r.isFiring = false)
      (hf : ∀ r : Record, r.Keeps (f r) ∧ (f r).phase = .pending) : Change wild s ((s.dropWaiting k).updateRecord k f)
  | pulseEnd (s : State) (b : Bank) (p : RunningPulse) (r : Record) (why : PulseEnd) (hrun : s.runningPulse b = some p)
      (hfind : s.pool.find p.slot = some r) : Change wild s (s.closeBank b p r why)
  | recover (s : State) (b : Bank) (p : RunningPulse) (ends : Time) (hrun : s.runningPulse b = some p)
      (hfind : s.pool.find p.slot = none) : Change wild s (s.setBankState b (.recovery ends))
  | idle (s : State) (b : Bank) (ends : Time) (hstate : (s.drivers.get b).state = .recovery ends) :
      Change wild s (s.setBankState b .idle)
  | pulse (s : State) (b : Bank) (p p' : RunningPulse) (hrun : s.runningPulse b = some p) (hslot : p'.slot = p.slot)
      (hends : p'.ends = p.ends) : Change wild s (s.setBankState b (.firing p'))
  | stageLine (s : State) (b : Bank) (level : Bool) : Change wild s (s.setStageLine b level)
  | start (s : State) (b : Bank) (r : Record) (f : FiringFields) (e : WaitEntry) (planned : Time) (o : StartOutcome)
      (hdue : s.dueHead b = some (r, f, e, planned)) : Change wild s (s.startPulse b r f o)
  | release (s : State) (r : Record) (d : Nat) (shortened : Bool) (new period : Nat)
      (hfind : s.pool.find r.slot = some r) (hpending : r.isPending = true) (hsync : s.clock.sync = .synced)
      (hsuppression : s.overspeedSuppression = false)
      (hbudget : budgetAtRelease s.limits.budget (s.table.get r.cylinder).released r.duration = some (d, shortened)) :
      Change wild s (s.releaseRecord r d shortened new period)
  | replan (s : State) (k : Slot) (r : Record) (planned : Time) (late : Bool) (hfind : s.pool.find k = some r)
      (hreleased : r.isReleased = true) :
      Change wild s ((s.setPlanned k planned).reposition k (s.bankOf r.cylinder) late)
  | quarantine (s : State) (k : Slot) (r : Record) (hfind : s.pool.find k = some r) (hpending : r.isPending = true) :
      Change wild s (s.setPool (s.pool.quarantineRecord k))
  | final (s : State) (t : Record → Bool) : Change wild s (s.mapRecords fun r => if t r then r.markFinal else r)
  | scrub (s : State) : Change wild s (s.setPool s.pool.scrub)

/-- Elementary changes one after another. -/
abbrev Path (wild : Bool) : State → State → Prop := Relation.ReflTransGen (Change wild)

theorem Change.path {w : Bool} {s u : State} (h : Change w s u) : Path w s u := Relation.ReflTransGen.single h

/-- A fold of operations that are paths is a path. -/
theorem Path.foldl {w : Bool} {α : Type} {f : State → α → State} (h : ∀ s a, Path w s (f s a)) (l : List α) (s : State) :
    Path w s (l.foldl f s) := by
  induction l generalizing s with
  | nil => exact .refl
  | cons a l ih => exact (h s a).trans (ih _)

namespace State

/-! ### Links -/

section links
variable (w : Bool) (s : State) (l : Link)

/-- A port that keeps its sticky flags and notice enables, its log no longer than before, and its response. -/
theorem setLink_change (p : LinkPort) (hlog : p.log.length ≤ 32 ∨ p.log.length ≤ (s.links.get l).log.length)
    (hsticky : (s.links.get l).sticky &&& ~~~(linkFlags l &&& stickyFlags) = 0 → p.sticky &&& ~~~(linkFlags l &&& stickyFlags) = 0)
    (henables : (s.links.get l).enables &&& ~~~linkFlags l = 0 → p.enables &&& ~~~linkFlags l = 0)
    (hresponse : p.response = (s.links.get l).response ∨ ∃ x e d, p.response = formResponse x e d) :
    Change w s (s.setLink l p) := by
  have hget : (s.setLink l p).links.get l = p := by simp [setLink_links]
  refine .link s l p (fun ⟨hlen, hst, hen⟩ => ?_) (fun hs => ?_)
  · rw [linkBounded, hget]
    exact ⟨hlog.elim id fun h => h.trans hlen, hsticky hst, henables hen⟩
  · rw [responseSound, hget]
    obtain h | ⟨x, e, d, h⟩ := hresponse
    · rw [h]; exact hs
    · rw [h]; rfl

theorem raiseFlag_change (f : Flag) (hf : f.mask &&& ~~~(linkFlags l &&& stickyFlags) = 0) : Change w s (s.raiseFlag l f) := by
  refine setLink_change w s l _ (.inr le_rfl) (fun h => ?_) id (.inl rfl)
  rw [BitVec.and_comm, BitVec.and_or_distrib_left, BitVec.and_comm _ f.mask, hf, BitVec.and_comm, h]
  rfl

theorem append_path (e : LogEntry) : Path w s (s.append l e) := by
  refine Change.path ?_
  by_cases h : (s.links.get l).log.length < 32
  · rw [append_of_room s l e h]
    exact setLink_change w s l _ (.inl (by simpa using h)) id id (.inl rfl)
  · rw [append_of_full s l e (Nat.not_lt.mp h)]
    exact raiseFlag_change w s l .logLost (by cases l <;> rfl)

theorem respond_change (x : Status) (e : Byte) (d : Data) : Change w s (s.respond l x e d) :=
  setLink_change w s l _ (.inr le_rfl) id id (.inr ⟨x, e, d, rfl⟩)

theorem raiseSync_path : Path w s s.raiseSync :=
  (((raiseFlag_change w s .fuel .sync rfl).path).trans (raiseFlag_change w _ .thermal .sync rfl).path).trans
    (raiseFlag_change w _ .supervisor .sync rfl).path

theorem reportDisplaced_path (r : Record) (c : DisplaceCause) : Path w s (s.reportDisplaced r c) :=
  (append_path w s _ _).trans (raiseFlag_change w _ _ .displaced (by cases r.owner <;> rfl)).path

theorem clearLink_change : Change w s (s.clearLink l) :=
  setLink_change w s l _ (.inl (Nat.zero_le _)) (fun _ => by simp) id (.inl rfl)

end links

/-! ### Limits, table, staging -/

section registers
variable (w : Bool) (s : State)

/-- Whether overspeed suppression is in force depends on the overspeed-active flag and on the fault mask alone (R129). -/
theorem overspeedSuppression_congr {s u : State} (h : u.limits.overspeedActive = s.limits.overspeedActive)
    (hm : u.faults.mask = s.faults.mask) : u.overspeedSuppression = s.overspeedSuppression := by
  simp only [overspeedSuppression, masked, h, hm]

theorem disableCylinder_change (c : Cylinder) : Change w s (s.disableCylinder c) :=
  .limits s _ id (.inr id)

/-- A status entry replaced by one that is tended. -/
theorem setCylinder_change (c : Cylinder) (e : CylinderStatus)
    (h : CylinderStatus.Tended (s.clock.sync = .synced) s.engine.config.carryLimit (s.table.get c) e) :
    Change w s (s.setCylinder c e) := by
  refine .table s _ fun d => ?_
  rw [Eight.get_set]
  split
  · next hd => exact hd ▸ h
  · exact ⟨rfl, rfl, rfl, rfl, rfl, id, .inl rfl, .inl rfl⟩

theorem clearCarry_change : Change w s s.clearCarry := by
  refine .table s _ fun c => ?_
  rw [Eight.get_map]
  exact ⟨rfl, rfl, rfl, rfl, rfl, id, .inr rfl, .inr (.inl rfl)⟩

/-! ### The fault unit -/

theorem handFault_change (b : Block) (k : FaultKind) (c : Option Cylinder) (x : Option Slot) :
    Change w s (s.handFault b k c x) :=
  .faults s _ (fun _ h => .inr h) (.inr id)

/-- What an offer leaves in the capture record has a follow count within its limit (R144). -/
theorem offerCapture_follow (c : Option Capture) (r : FaultRecord) (h : Capture) (hh : (offerCapture c r).1 = some h) :
    h.follow ≤ 255 := by
  cases c with
  | none =>
    cases hh
    exact Nat.zero_le _
  | some x =>
    unfold offerCapture at hh
    dsimp only at hh
    split at hh
    · cases hh
      exact Nat.zero_le _
    · cases hh
      exact Nat.min_le_left _ _

theorem latchFault_path (r : FaultRecord) : Path w s (s.latchFault r) := by
  have hset : Change w s (s.setFaults
      { s.faults with pending := s.faults.pending ||| r.kind.mask, capture := (offerCapture s.faults.capture r).1 }) :=
    .faults s _ (fun c hc => .inl (offerCapture_follow _ r c hc)) (.inr id)
  unfold latchFault
  dsimp only
  split
  · exact hset.path.trans (raiseFlag_change w _ .supervisor .capture rfl).path
  · exact hset.path

theorem takeFault_path (r : FaultRecord) : Path w s (s.takeFault r) := by
  unfold takeFault
  dsimp only
  split
  · exact latchFault_path w s r
  · exact (latchFault_path w s r).trans (append_path w _ _ _)

theorem takeRaisedOf_path (x : Block) : Path w s (s.takeRaisedOf x) := by
  unfold takeRaisedOf
  split
  · exact .refl
  · next y _ =>
    have htaken : Change w s (s.setFaults { s.faults with raised := s.faults.raised.eraseP fun y => y.block == x }) :=
      .faults s _ (fun _ h => .inr h) (.inr id)
    exact htaken.path.trans (takeFault_path w _ y.record)

theorem takeRaised_path : Path w s s.takeRaised := by
  have hempty : Change w s (s.setFaults { s.faults with raised := [] }) := .faults s _ (fun _ h => .inr h) (.inr id)
  exact hempty.path.trans (Path.foldl (fun s (y : RaisedFault) => takeFault_path w s y.record) _ _)

/-! ### Freeing and the end of a firing opportunity -/

/-- A record that is not FIRING returned to PENDING. -/
theorem returnPending_change (k : Slot)
    (hidle : s.pool.partitioned → ∀ x, s.pool.find k = some x → x.isFiring = false) : Change w s (s.returnPending k) :=
  .returned s k (fun r => { r with phase := .pending }) hidle fun _ => ⟨⟨rfl, rfl, rfl, rfl, rfl, rfl, rfl, rfl, le_rfl⟩, rfl⟩

/-- A record that is not FIRING counted down. -/
theorem returnCounted_change (k : Slot)
    (hidle : s.pool.partitioned → ∀ x, s.pool.find k = some x → x.isFiring = false) : Change w s (s.returnCounted k) :=
  .returned s k (fun r => { r with phase := .pending, repeats := r.repeats - 1 }.rechecked) hidle fun _ =>
    ⟨⟨rfl, rfl, rfl, rfl, rfl, rfl, rfl, rfl, Nat.sub_le _ _⟩, rfl⟩

/-- The retirement of a record that is not FIRING. -/
theorem retire_path (k : Slot) (r : Record)
    (hidle : s.pool.partitioned → ∀ x, s.pool.find k = some x → x.isFiring = false) : Path w s (s.retire k r).1 := by
  obtain ⟨-, heq⟩ | ⟨-, -, heq⟩ | ⟨-, -, heq⟩ := retire_cases s k r <;> rw [heq]
  · exact (Change.free s k hidle).path
  · exact (returnCounted_change w s k hidle).path
  · exact (returnPending_change w s k hidle).path

theorem endOpportunity_path (k : Slot) (o : Outcome) (cycle : Word16) (start : Option Time) (d : Nat) (noRise : Bool)
    (hidle : ∀ r, s.pool.find k = some r → r.isFiring = false) :
    Path w s (s.endOpportunity k o cycle start d noRise) := by
  cases hf : s.pool.find k with
  | none =>
    rw [endOpportunity, hf]
  | some r =>
    rw [endOpportunity_of_find hf]
    split
    · exact (retire_path w s k r fun _ => hidle).trans (append_path w _ _ _)
    · exact retire_path w s k r fun _ => hidle

/-- A RELEASED record is not FIRING. -/
theorem not_isFiring_of_isReleased {r : Record} (h : r.isReleased = true) : r.isFiring = false := by
  unfold Record.isReleased at h
  unfold Record.isFiring
  cases hp : r.phase <;> simp_all

/-- A PENDING record is not FIRING. -/
theorem not_isFiring_of_isPending {r : Record} (h : r.isPending = true) : r.isFiring = false := by
  unfold Record.isPending at h
  unfold Record.isFiring
  cases hp : r.phase <;> simp_all

theorem suppressReleased_path (k : Slot) (c : SuppressCause) : Path w s (s.suppressReleased k c) := by
  unfold suppressReleased
  split
  · next r hf =>
    split
    · next hr =>
      refine endOpportunity_path w s k _ _ _ _ _ fun x hx => ?_
      cases hf.symm.trans hx
      exact not_isFiring_of_isReleased hr
    · exact .refl
  · exact .refl

theorem overspeedSweep_path : Path w s s.overspeedSweep :=
  Path.foldl (fun s k => suppressReleased_path w s k .overspeed) _ s

theorem leaveReleased_path (k : Slot) : Path w s (s.leaveReleased k) := by
  unfold leaveReleased
  split
  · next r hf =>
    split
    · next hr =>
      have hidle (x : Record) (hx : s.pool.find k = some x) : x.isFiring = false := by
        cases hf.symm.trans hx
        exact not_isFiring_of_isReleased hr
      split
      · exact (Change.free s k fun _ => hidle).path
      · exact (returnPending_change w s k fun _ => hidle).path
    · exact .refl
  · exact .refl

theorem leavingSynced_path : Path w s s.leavingSynced :=
  Path.foldl (fun s k => leaveReleased_path w s k) _ s

theorem react_path (k : FaultKind) (c : Option Cylinder) : Path w s (s.react k c) := by
  unfold react
  split
  · exact overspeedSweep_path w s
  · split
    · exact (disableCylinder_change w s _).path
    · exact .refl
  all_goals exact .refl

theorem reactUnmasked_path (k : FaultKind) (c : Option Cylinder) : Path w s (s.reactUnmasked k c) := by
  unfold reactUnmasked
  split
  · exact .refl
  · exact react_path w s k c

theorem raiseFault_path (k : FaultKind) (c : Option Cylinder) (x : Option Slot) : Path w s (s.raiseFault k c x) :=
  (takeFault_path w s _).trans (reactUnmasked_path w _ k c)

end registers

/-! ### The bank drivers -/

section drivers
variable (w : Bool) (s : State) (b : Bank)

theorem endPulse_path (why : PulseEnd) : Path w s (s.endPulse b why) := by
  unfold endPulse
  split
  · exact .refl
  · next p hrun =>
    dsimp only
    split
    · next hf => exact (Change.recover s b p _ hrun hf).path
    · next r hf =>
      have hpool : (((s.setBankState b (.recovery (after s.timeBase s.engine.config.bankRecovery))).negateFire
          r.cylinder).setCylinder r.cylinder
            (s.closePulse p r why (passedBy s.timeBase (s.actualStart r)))).pool.find p.slot = some r := hf
      rw [endOpportunity_of_find hpool]
      split
      · exact (Change.pulseEnd s b p r why hrun hf).path.trans (append_path w _ _ _)
      · exact (Change.pulseEnd s b p r why hrun hf).path

theorem pulseExpiry_path : Path w s (s.pulseExpiry b) := by
  unfold pulseExpiry
  split
  · split
    · exact endPulse_path w s b .expiry
    · exact .refl
  · exact .refl

theorem peakEdge_path : Path w s (s.peakEdge b) := by
  unfold peakEdge
  split
  · next p hrun => exact (Change.pulse s b p { p with peakSeen := true } hrun rfl rfl).path
  · exact .refl

theorem noPeak_path (p : RunningPulse) (hrun : s.runningPulse b = some p) : Path w s (s.noPeak b p) := by
  have hpulse := (Change.pulse (wild := w) s b p { p with deadline := none, noRise := true } hrun rfl rfl).path
  unfold noPeak
  dsimp only
  split
  · exact hpulse
  · have hstreak (u : State) (c : Cylinder) :
        Path w u (u.setCylinder c { u.table.get c with streak := min Config.streakLimit ((u.table.get c).streak + 1) }) :=
      (setCylinder_change w u c { u.table.get c with streak := min Config.streakLimit ((u.table.get c).streak + 1) }
        ⟨rfl, rfl, rfl, rfl, rfl, fun _ => Nat.min_le_left _ _, .inl rfl, .inl rfl⟩).path
    split
    · exact ((hpulse.trans (raiseFault_path w _ _ _ _)).trans (hstreak _ _)).trans (raiseFault_path w _ _ _ _)
    · exact (hpulse.trans (raiseFault_path w _ _ _ _)).trans (hstreak _ _)

theorem peakExpiry_path : Path w s (s.peakExpiry b) := by
  unfold peakExpiry
  split
  · next p hrun =>
    split
    · split_ifs
      · exact (Change.pulse s b p { p with deadline := none } hrun rfl rfl).path
      · exact noPeak_path w s b p hrun
      · exact .refl
    · exact .refl
  · exact .refl

/-- The record of a due head is RELEASED, found at the entry's slot. -/
theorem dueHead_some {s : State} {b : Bank} {r : Record} {f : FiringFields} {e : WaitEntry} {planned : Time}
    (h : s.dueHead b = some (r, f, e, planned)) :
    (s.drivers.get b).state = .idle ∧ (∃ rest, (s.drivers.get b).waiting = e :: rest) ∧ s.pool.find e.slot = some r
      ∧ r.phase = .released f planned ∧ r.slot = e.slot ∧ reached s.timeBase planned = true := by
  unfold dueHead at h
  split at h
  · next x rest hstate hwait =>
    split at h
    · next y hf =>
      split at h
      · next g T hp =>
        split at h
        · next hreached =>
          cases h
          exact ⟨hstate, ⟨rest, hwait⟩, hf, hp, (Pool.find_some hf).2, hreached⟩
        · cases h
      · cases h
    · cases h
  · cases h

theorem decideHead_path {r : Record} {f : FiringFields} {e : WaitEntry} {planned : Time}
    (h : s.dueHead b = some (r, f, e, planned)) : Path w s (s.decideHead b r f e planned) := by
  obtain ⟨-, -, hf, hp, hslot, -⟩ := dueHead_some h
  have hidle (x : Record) (hx : s.pool.find r.slot = some x) : x.isFiring = false := by
    cases (hslot ▸ hf : s.pool.find r.slot = some r).symm.trans hx
    simp [Record.isFiring, hp]
  have hstart (o : StartOutcome) : Path w s (s.startPulse b r f o) := (Change.start s b r f e planned o h).path
  unfold decideHead
  dsimp only
  split_ifs
  · exact endOpportunity_path w s _ _ _ _ _ _ hidle
  · exact (endOpportunity_path w s _ _ _ _ _ _ hidle).trans (handFault_change w _ _ _ _ _).path
  · exact (hstart _).trans (handFault_change w _ _ _ _ _).path
  · exact hstart _
  · exact hstart _

theorem decideUpTo_path (n : Nat) : Path w s (decideUpTo n b s) := by
  induction n generalizing s with
  | zero => exact .refl
  | succ n ih =>
    unfold decideUpTo
    split
    · next h => exact (decideHead_path w s b h).trans (ih _)
    · exact .refl

theorem takeDecisions_path : Path w s (s.takeDecisions b) := decideUpTo_path w s b _

theorem decideNow_path : Path w s (s.decideNow b) := (takeDecisions_path w s b).trans (takeRaised_path w _)

theorem recoveryExpiry_path : Path w s (s.recoveryExpiry b) := by
  unfold recoveryExpiry
  split
  · next ends hstate =>
    split
    · exact (Change.idle s b ends hstate).path.trans (decideNow_path w _ b)
    · exact .refl
  · exact .refl

theorem assertStage_path : Path w s (s.assertStage b) := by
  unfold assertStage
  split
  · exact .refl
  · have hline := (Change.stageLine (wild := w) s b true).path
    dsimp only
    split
    · exact (hline.trans (raiseFault_path w _ _ _ _)).trans (endPulse_path w _ b .stage)
    · exact hline.trans (raiseFault_path w _ _ _ _)

end drivers

end State
end Sys2Proof.Machine
end

section
/-! PROOF. The agreement of timeline, waiting lists, running pulses and FIRE lines as one relation between what stands at each slot, and that
every elementary change keeps it (R38, R110, R113). -/

namespace Sys2Proof.Machine

/-! ### The agreement -/

/-- Slots with a RELEASED and with a FIRING record, each by its cylinder, against waiting lists, running pulses and FIRE lines. -/
structure Agreement (released firing : Slot → Option Cylinder) (bank : Cylinder → Bank) (waits : Bank → List Slot)
    (runs : Bank → Option Slot) (lines : Cylinder → Bool) : Prop where
  nodup : ∀ b, (waits b).Nodup
  waits : ∀ b k, k ∈ waits b ↔ ∃ c, released k = some c ∧ bank c = b
  runs : ∀ b k, runs b = some k ↔ ∃ c, firing k = some c ∧ bank c = b
  lines : ∀ c, lines c = true ↔ ∃ k, firing k = some c

namespace Agreement

variable {released firing : Slot → Option Cylinder} {bank : Cylinder → Bank} {waits : Bank → List Slot}
  {runs : Bank → Option Slot} {lines : Cylinder → Bool}

/-- The waiting lists may be put in another order. -/
theorem reorder (h : Agreement released firing bank waits runs lines) {waits' : Bank → List Slot}
    (hperm : ∀ b, (waits' b).Perm (waits b)) : Agreement released firing bank waits' runs lines :=
  { h with
    nodup := fun b => (hperm b).nodup_iff.mpr (h.nodup b)
    waits := fun b k => (hperm b).mem_iff.trans (h.waits b k) }

/-- A slot loses its RELEASED record, if it had one, and its place in the waiting lists. -/
theorem unrelease (h : Agreement released firing bank waits runs lines) (k : Slot) :
    Agreement (Function.update released k none) firing bank (fun b => (waits b).filter fun j => j != k) runs lines :=
  { h with
    nodup := fun b => (h.nodup b).filter _
    waits := fun b j => by
      by_cases hj : j = k
      · subst hj
        simp
      · simp [List.mem_filter, hj, h.waits b j] }

/-- A slot without a RELEASED record stands in no waiting list. -/
theorem filter_waits (h : Agreement released firing bank waits runs lines) {k : Slot} (hk : released k = none) (b : Bank) :
    (waits b).filter (fun j => j != k) = waits b := by
  refine List.filter_eq_self.mpr fun j hj => ?_
  obtain ⟨c, hc, -⟩ := (h.waits b j).mp hj
  have hne : j ≠ k := fun h => by rw [h, hk] at hc; cases hc
  simpa using hne

/-- A slot gets a RELEASED record, and a place in the waiting list of its cylinder's bank. -/
theorem release (h : Agreement released firing bank waits runs lines) {k : Slot} (hk : released k = none) (c : Cylinder)
    {waits' : Bank → List Slot} (hjoin : (waits' (bank c)).Perm (k :: waits (bank c)))
    (hother : ∀ b, b ≠ bank c → waits' b = waits b) :
    Agreement (Function.update released k (some c)) firing bank waits' runs lines := by
  have hfresh (b : Bank) : k ∉ waits b := fun hmem => by
    obtain ⟨d, hd, -⟩ := (h.waits b k).mp hmem
    rw [hk] at hd
    cases hd
  refine { h with nodup := fun b => ?_, waits := fun b j => ?_ }
  · by_cases hb : b = bank c
    · subst hb
      exact hjoin.nodup_iff.mpr (List.nodup_cons.mpr ⟨hfresh _, h.nodup _⟩)
    · rw [hother b hb]
      exact h.nodup b
  · by_cases hj : j = k
    · subst hj
      by_cases hb : b = bank c
      · subst hb
        simp [hjoin.mem_iff]
      · rw [hother b hb]
        simp [hfresh b, Ne.symm hb]
    · by_cases hb : b = bank c
      · subst hb
        simp [hjoin.mem_iff, hj, h.waits (bank c) j]
      · rw [hother b hb]
        simp [hj, h.waits b j]

/-- A slot that holds no RELEASED record gets a FIRING one, on a bank where none runs, and its FIRE line. -/
theorem start (h : Agreement released firing bank waits runs lines) {k : Slot} (c : Cylinder)
    (hidle : runs (bank c) = none) (hk : firing k = none) {runs' : Bank → Option Slot} {lines' : Cylinder → Bool}
    (hruns : ∀ b, runs' b = if b = bank c then some k else runs b) (hlines : ∀ d, lines' d = (lines d || decide (d = c))) :
    Agreement released (Function.update firing k (some c)) bank waits runs' lines' := by
  refine { h with runs := fun b j => ?_, lines := fun d => ?_ }
  · rw [hruns]
    by_cases hb : b = bank c
    · subst hb
      rw [if_pos rfl]
      by_cases hj : j = k
      · subst hj
        simp
      · have hnone : ¬ ∃ d, firing j = some d ∧ bank d = bank c := fun hd => by
          rw [(h.runs _ j).mpr hd] at hidle
          cases hidle
        simpa [hj, Ne.symm hj] using hnone
    · rw [if_neg hb, h.runs b j]
      by_cases hj : j = k
      · subst hj
        simp [hk, Ne.symm hb]
      · simp [hj]
  · rw [hlines, Bool.or_eq_true, h.lines, decide_eq_true_eq]
    constructor
    · rintro (⟨j, hj⟩ | rfl)
      · have hne : j ≠ k := fun hjk => by rw [hjk, hk] at hj; cases hj
        exact ⟨j, by simpa [hne] using hj⟩
      · exact ⟨k, by simp⟩
    · rintro ⟨j, hj⟩
      by_cases hne : j = k
      · subst hne
        simp only [Function.update_self, Option.some.injEq] at hj
        exact .inr hj.symm
      · exact .inl ⟨j, by simpa [hne] using hj⟩

/-- A slot with the FIRING record of a bank loses it, and its FIRE line. -/
theorem finish (h : Agreement released firing bank waits runs lines) {k : Slot} {c : Cylinder} {b : Bank}
    (hrun : runs b = some k) (hk : firing k = some c) {runs' : Bank → Option Slot} {lines' : Cylinder → Bool}
    (hruns : ∀ b', runs' b' = if b' = b then none else runs b') (hlines : ∀ d, lines' d = (lines d && !decide (d = c))) :
    Agreement released (Function.update firing k none) bank waits runs' lines' := by
  have hbank : bank c = b := by
    obtain ⟨d, hd, hb⟩ := (h.runs b k).mp hrun
    rw [hk] at hd
    cases hd
    exact hb
  have honly {j : Slot} {d : Cylinder} (hj : firing j = some d) (hd : bank d = b) : j = k := by
    have hj' := (h.runs b j).mpr ⟨d, hj, hd⟩
    rw [hrun] at hj'
    cases hj'
    rfl
  refine { h with runs := fun b' j => ?_, lines := fun d => ?_ }
  · rw [hruns]
    by_cases hb : b' = b
    · subst hb
      have hnone : ¬ ∃ d, Function.update firing k none j = some d ∧ bank d = b' := by
        rintro ⟨d, hd, hb⟩
        by_cases hj : j = k
        · subst hj
          simp at hd
        · simp only [Function.update_of_ne hj] at hd
          exact hj (honly hd hb)
      simpa using hnone
    · rw [if_neg hb, h.runs b' j]
      by_cases hj : j = k
      · subst hj
        simp [hk, hbank, Ne.symm hb]
      · simp [hj]
  · rw [hlines, Bool.and_eq_true, h.lines, Bool.not_eq_true', decide_eq_false_iff_not]
    constructor
    · rintro ⟨⟨j, hj⟩, hne⟩
      have hjk : j ≠ k := fun hjk => by
        rw [hjk, hk] at hj
        cases hj
        exact hne rfl
      exact ⟨j, by simpa [hjk] using hj⟩
    · rintro ⟨j, hj⟩
      by_cases hjk : j = k
      · subst hjk
        simp at hj
      · simp only [Function.update_of_ne hjk] at hj
        refine ⟨⟨j, hj⟩, fun hd => hjk ?_⟩
        subst hd
        exact honly hj hbank

end Agreement

/-! ### The agreement of a state -/

/-- The cylinder of the RELEASED record at a slot. -/
def Pool.releasedAt (p : Pool) (k : Slot) : Option Cylinder :=
  (p.find k).bind fun r => if r.isReleased then some r.cylinder else none

/-- The cylinder of the FIRING record at a slot. -/
def Pool.firingAt (p : Pool) (k : Slot) : Option Cylinder :=
  (p.find k).bind fun r => if r.isFiring then some r.cylinder else none

theorem Pool.releasedAt_eq_some {p : Pool} {k : Slot} {c : Cylinder} :
    p.releasedAt k = some c ↔ ∃ r, p.find k = some r ∧ r.isReleased = true ∧ r.cylinder = c := by
  simp [releasedAt, Option.bind_eq_some_iff]

theorem Pool.firingAt_eq_some {p : Pool} {k : Slot} {c : Cylinder} :
    p.firingAt k = some c ↔ ∃ r, p.find k = some r ∧ r.isFiring = true ∧ r.cylinder = c := by
  simp [firingAt, Option.bind_eq_some_iff]

namespace State

/-- The slots of a bank's waiting list, from head to tail. -/
def waitsOn (s : State) (b : Bank) : List Slot := (s.drivers.get b).waiting.map fun e => e.slot

/-- The slot of a bank's running pulse. -/
def runsOn (s : State) (b : Bank) : Option Slot := (s.runningPulse b).map fun p => p.slot

/-- The timeline of a state agrees with its waiting lists, running pulses and FIRE lines. -/
abbrev Agrees (s : State) : Prop :=
  Agreement s.pool.releasedAt s.pool.firingAt s.bankOf s.waitsOn s.runsOn s.fireLine

theorem waitingSlots_eq (s : State) : s.waitingSlots = s.waitsOn .bankA ++ s.waitsOn .bankB := by
  simp [waitingSlots, waitsOn, Drivers.get]

theorem mem_waitingSlots (s : State) (k : Slot) : k ∈ s.waitingSlots ↔ ∃ b, k ∈ s.waitsOn b := by
  rw [waitingSlots_eq, List.mem_append]
  exact ⟨fun h => h.elim (⟨_, ·⟩) (⟨_, ·⟩), fun ⟨b, hb⟩ => by cases b <;> simp [hb]⟩

theorem runsOn_eq_some {s : State} {b : Bank} {k : Slot} :
    s.runsOn b = some k ↔ ∃ p, s.runningPulse b = some p ∧ p.slot = k := by
  simp [runsOn]

/-- A waiting list is sound when each of its slots holds a RELEASED record of a cylinder of the bank. -/
theorem waitingSound_iff {s : State} (h : s.pool.slots.Nodup) (b : Bank) :
    s.waitingSound b = true ↔ ∀ k ∈ s.waitsOn b, ∃ c, s.pool.releasedAt k = some c ∧ s.bankOf c = b := by
  simp only [waitingSound, List.all_eq_true, List.any_eq_true, Bool.and_eq_true, beq_iff_eq, waitsOn, List.mem_map,
    Pool.releasedAt_eq_some]
  constructor
  · rintro hall k ⟨e, he, rfl⟩
    obtain ⟨r, hr, ⟨hslot, hrel⟩, hb⟩ := hall e he
    exact ⟨r.cylinder, ⟨r, hslot ▸ Pool.find_of_mem h hr, hrel, rfl⟩, hb⟩
  · intro hall e he
    obtain ⟨c, ⟨r, hf, hrel, rfl⟩, hb⟩ := hall e.slot ⟨e, he, rfl⟩
    obtain ⟨hr, hslot⟩ := Pool.find_some hf
    exact ⟨r, hr, ⟨hslot, hrel⟩, hb⟩

/-- A bank's running pulse is sound when its slot holds a FIRING record of a cylinder of the bank. -/
theorem pulseSound_iff {s : State} (h : s.pool.slots.Nodup) (b : Bank) :
    s.pulseSound b = true ↔ ∀ k, s.runsOn b = some k → ∃ c, s.pool.firingAt k = some c ∧ s.bankOf c = b := by
  simp only [runsOn_eq_some, Pool.firingAt_eq_some, pulseSound]
  cases hp : s.runningPulse b with
  | none => simp
  | some p =>
    simp only [List.any_eq_true, Bool.and_eq_true, beq_iff_eq, Option.some.injEq]
    constructor
    · rintro ⟨r, hr, ⟨hslot, hfire⟩, hb⟩ k ⟨q, rfl, rfl⟩
      exact ⟨r.cylinder, ⟨r, hslot ▸ Pool.find_of_mem h hr, hfire, rfl⟩, hb⟩
    · intro hall
      obtain ⟨c, ⟨r, hf, hfire, rfl⟩, hb⟩ := hall p.slot ⟨p, rfl, rfl⟩
      obtain ⟨hr, hslot⟩ := Pool.find_some hf
      exact ⟨r, hr, ⟨hslot, hfire⟩, hb⟩

/-- A record is sound when it waits while RELEASED, and is its bank's pulse while FIRING. -/
theorem recordSound_iff (s : State) (r : Record) :
    s.recordSound r = true ↔ (r.isReleased = true → ∃ b, r.slot ∈ s.waitsOn b)
      ∧ (r.isFiring = true → s.runsOn (s.bankOf r.cylinder) = some r.slot) := by
  unfold recordSound Record.isReleased Record.isFiring
  cases hp : r.phase with
  | pending => simp
  | released f t => simp [mem_waitingSlots]
  | firing f t =>
    simp only [runsOn]
    cases hq : s.runningPulse (s.bankOf r.cylinder) <;> simp

/-- A cylinder has a FIRING record when some slot holds one of it. -/
theorem hasFiring_iff {s : State} (h : s.pool.slots.Nodup) (c : Cylinder) :
    s.hasFiring c = true ↔ ∃ k, s.pool.firingAt k = some c := by
  simp only [hasFiring, List.any_eq_true, Bool.and_eq_true, beq_iff_eq, Pool.firingAt_eq_some]
  constructor
  · rintro ⟨r, hr, hfire, hc⟩
    exact ⟨r.slot, r, Pool.find_of_mem h hr, hfire, hc⟩
  · rintro ⟨k, r, hf, hfire, hc⟩
    exact ⟨r, (Pool.find_some hf).1, hfire, hc⟩

/-- The timeline is sound when every slot has one home and the rest agrees with what stands at each slot. -/
theorem timelineSound_iff (s : State) : s.timelineSound ↔ s.pool.partitioned ∧ s.Agrees := by
  constructor
  · rintro ⟨hpart, hnodup, hwA, hwB, hpA, hpB, hrec, hlines⟩
    have hslots := Pool.partitioned_slots_nodup hpart
    have hw (b : Bank) : ∀ k ∈ s.waitsOn b, ∃ c, s.pool.releasedAt k = some c ∧ s.bankOf c = b :=
      (waitingSound_iff hslots b).mp (by cases b; exacts [hwA, hwB])
    have hp (b : Bank) : ∀ k, s.runsOn b = some k → ∃ c, s.pool.firingAt k = some c ∧ s.bankOf c = b :=
      (pulseSound_iff hslots b).mp (by cases b; exacts [hpA, hpB])
    rw [waitingSlots_eq, List.nodup_append] at hnodup
    refine ⟨hpart, fun b => ?_, fun b k => ⟨hw b k, ?_⟩, fun b k => ⟨hp b k, ?_⟩, fun c => ?_⟩
    · cases b
      exacts [hnodup.1, hnodup.2.1]
    · rintro ⟨c, hc, hb⟩
      obtain ⟨r, hf, hrel, rfl⟩ := Pool.releasedAt_eq_some.mp hc
      obtain ⟨hr, hslot⟩ := Pool.find_some hf
      obtain ⟨b', hmem⟩ := ((recordSound_iff s r).mp (hrec r hr)).1 hrel
      rw [hslot] at hmem
      obtain ⟨c', hc', hb'⟩ := hw b' k hmem
      rw [hc] at hc'
      cases hc'
      rwa [← hb, hb']
    · rintro ⟨c, hc, hb⟩
      obtain ⟨r, hf, hfire, rfl⟩ := Pool.firingAt_eq_some.mp hc
      obtain ⟨hr, hslot⟩ := Pool.find_some hf
      have hrun := ((recordSound_iff s r).mp (hrec r hr)).2 hfire
      rwa [hb, hslot] at hrun
    · rw [← hasFiring_iff hslots, hlines c (by fin_cases c <;> decide)]
  · rintro ⟨hpart, h⟩
    have hslots := Pool.partitioned_slots_nodup hpart
    have hw (b : Bank) := (waitingSound_iff hslots b).mpr fun k hk => (h.waits b k).mp hk
    have hp (b : Bank) := (pulseSound_iff hslots b).mpr fun k hk => (h.runs b k).mp hk
    refine ⟨hpart, ?_, hw _, hw _, hp _, hp _, fun r hr => (recordSound_iff s r).mpr ⟨fun hrel => ?_, fun hfire => ?_⟩,
      fun c _ => Bool.eq_iff_iff.mpr ((h.lines c).trans (hasFiring_iff hslots c).symm)⟩
    · rw [waitingSlots_eq, List.nodup_append]
      refine ⟨h.nodup _, h.nodup _, fun k hA j hB hkj => ?_⟩
      subst hkj
      obtain ⟨c, hc, hbA⟩ := (h.waits .bankA k).mp hA
      obtain ⟨d, hd, hbB⟩ := (h.waits .bankB k).mp hB
      rw [hc] at hd
      cases hd
      rw [hbA] at hbB
      cases hbB
    · exact ⟨_, (h.waits _ _).mpr ⟨_, Pool.releasedAt_eq_some.mpr ⟨r, Pool.find_of_mem hslots hr, hrel, rfl⟩, rfl⟩⟩
    · exact (h.runs _ _).mpr ⟨_, Pool.firingAt_eq_some.mpr ⟨r, Pool.find_of_mem hslots hr, hfire, rfl⟩, rfl⟩

theorem Agrees.congr {s u : State} (h : s.Agrees) (hrel : ∀ k, u.pool.releasedAt k = s.pool.releasedAt k)
    (hfire : ∀ k, u.pool.firingAt k = s.pool.firingAt k) (hbank : u.bankOf = s.bankOf) (hwaits : u.waitsOn = s.waitsOn)
    (hruns : u.runsOn = s.runsOn) (hlines : u.fireLine = s.fireLine) : u.Agrees := by
  unfold Agrees
  rwa [funext hrel, funext hfire, hbank, hwaits, hruns, hlines]

end State
end Sys2Proof.Machine
end

section
/-! PROOF. Every elementary change keeps the partition of the slots and the agreement of the timeline (R38, R110, R113). -/

namespace Sys2Proof.Machine

/-! ### What stands at each slot after an operation -/

namespace Pool

/-- When one slot's record alone is replaced, what stands at the other slots is as it was. -/
theorem at_of_find {p q : Pool} {k : Slot} {x : Option Record} (h : ∀ j, q.find j = if j = k then x else p.find j) :
    q.releasedAt = Function.update p.releasedAt k (x.bind fun r => if r.isReleased then some r.cylinder else none)
      ∧ q.firingAt = Function.update p.firingAt k (x.bind fun r => if r.isFiring then some r.cylinder else none) := by
  constructor <;> funext j <;> by_cases hj : j = k <;> simp [releasedAt, firingAt, h, hj]

/-- A slot that is left with no record, or with a PENDING one, holds no RELEASED and no FIRING record. -/
theorem at_of_find_pending {p q : Pool} {k : Slot} {x : Option Record} (h : ∀ j, q.find j = if j = k then x else p.find j)
    (hx : ∀ r ∈ x, r.phase = .pending) :
    q.releasedAt = Function.update p.releasedAt k none ∧ q.firingAt = Function.update p.firingAt k none := by
  obtain ⟨hrel, hfire⟩ := at_of_find h
  rw [hrel, hfire]
  cases x with
  | none => exact ⟨rfl, rfl⟩
  | some r => simp [Record.isReleased, Record.isFiring, hx r rfl]

/-- Records changed in place, each keeping its cylinder and whether it is RELEASED or FIRING. -/
theorem at_of_find_map {p q : Pool} {f : Record → Record} (h : ∀ j, q.find j = (p.find j).map f)
    (hf : ∀ r, (f r).cylinder = r.cylinder ∧ (f r).isReleased = r.isReleased ∧ (f r).isFiring = r.isFiring) :
    q.releasedAt = p.releasedAt ∧ q.firingAt = p.firingAt := by
  constructor <;> funext j <;> cases hx : p.find j <;> simp [releasedAt, firingAt, h, hx, hf]

theorem firingAt_eq_none {p : Pool} {k : Slot} (h : ∀ r, p.find k = some r → r.isFiring = false) :
    p.firingAt k = none := by
  cases hf : p.find k with
  | none => simp [firingAt, hf]
  | some r => simp [firingAt, hf, h r hf]

theorem releasedAt_eq_none {p : Pool} {k : Slot} (h : ∀ r, p.find k = some r → r.isReleased = false) :
    p.releasedAt k = none := by
  cases hf : p.find k with
  | none => simp [releasedAt, hf]
  | some r => simp [releasedAt, hf, h r hf]

end Pool

/-- The slot of the running pulse that a bank in some state has. -/
def BankState.slot : BankState → Option Slot
  | .firing p => some p.slot
  | _ => none

namespace State

/-! ### Waiting lists, running pulses and FIRE lines after an operation -/

theorem dropWaiting_waitsOn (s : State) (k : Slot) :
    (s.dropWaiting k).waitsOn = fun b => (s.waitsOn b).filter fun j => j != k := by
  funext b
  rw [waitsOn, dropWaiting_waiting, waitsOn, List.filter_map]
  rfl

theorem dropWaiting_runsOn (s : State) (k : Slot) : (s.dropWaiting k).runsOn = s.runsOn := by
  funext b
  simp only [runsOn, runningPulse, dropWaiting_state]

theorem setBankState_get (s : State) (b b' : Bank) (x : BankState) :
    (s.setBankState b x).drivers.get b' = if b' = b then { s.drivers.get b with state := x } else s.drivers.get b' := by
  simp [setBankState]

theorem setBankState_waitsOn (s : State) (b : Bank) (x : BankState) : (s.setBankState b x).waitsOn = s.waitsOn := by
  funext b'
  rw [waitsOn, waitsOn, setBankState_get]
  split
  · next h => rw [h]
  · rfl

theorem runsOn_eq (s : State) (b : Bank) : s.runsOn b = (s.drivers.get b).state.slot := by
  unfold runsOn runningPulse BankState.slot
  cases (s.drivers.get b).state <;> rfl

theorem setBankState_runsOn (s : State) (b b' : Bank) (x : BankState) :
    (s.setBankState b x).runsOn b' = if b' = b then x.slot else s.runsOn b' := by
  rw [runsOn_eq, runsOn_eq, setBankState_get]
  split <;> rfl

theorem setBankState_fireLine (s : State) (b : Bank) (x : BankState) : (s.setBankState b x).fireLine = s.fireLine := by
  funext c
  simp [fireLine, setBankState]

theorem setStageLine_get (s : State) (b b' : Bank) (level : Bool) :
    (s.setStageLine b level).drivers.get b'
      = if b' = b then { s.drivers.get b with stageFault := level } else s.drivers.get b' := by
  simp [setStageLine]

theorem setStageLine_waitsOn (s : State) (b : Bank) (level : Bool) : (s.setStageLine b level).waitsOn = s.waitsOn := by
  funext b'
  rw [waitsOn, waitsOn, setStageLine_get]
  split
  · next h => rw [h]
  · rfl

theorem setStageLine_runsOn (s : State) (b : Bank) (level : Bool) : (s.setStageLine b level).runsOn = s.runsOn := by
  funext b'
  rw [runsOn_eq, runsOn_eq, setStageLine_get]
  split
  · next h => rw [h]
  · rfl

theorem setStageLine_fireLine (s : State) (b : Bank) (level : Bool) : (s.setStageLine b level).fireLine = s.fireLine := by
  funext c
  simp [fireLine, setStageLine]

theorem fireBit (c d : Cylinder) : (1#8 <<< c.val).getLsbD d.val = decide (d = c) := by
  fin_cases c <;> fin_cases d <;> rfl

theorem assertFire_fireLine (s : State) (c d : Cylinder) : (s.assertFire c).fireLine d = (s.fireLine d || decide (d = c)) := by
  rw [← fireBit]
  exact BitVec.getLsbD_or

theorem negateFire_fireLine (s : State) (c d : Cylinder) : (s.negateFire c).fireLine d = (s.fireLine d && !decide (d = c)) := by
  rw [← fireBit]
  simp [negateFire, fireLine, inMask, d.isLt]

/-- Joining a waiting list adds one entry and keeps the order of the others. -/
theorem insertWait_split (s : State) (e : WaitEntry) (l : List WaitEntry) :
    ∃ before after, l = before ++ after ∧ s.insertWait e l = before ++ e :: after
      ∧ (∀ x ∈ before, keyBefore (s.waitKey e.slot) (s.waitKey x.slot) = false)
      ∧ ∀ x ∈ after.head?, keyBefore (s.waitKey e.slot) (s.waitKey x.slot) = true := by
  induction l with
  | nil => exact ⟨[], [], rfl, rfl, by simp, by simp⟩
  | cons x xs ih =>
    unfold insertWait
    split
    · next h => exact ⟨[], x :: xs, rfl, rfl, by simp, by simpa using h⟩
    · next h =>
      obtain ⟨before, after, hl, hins, hbefore, hafter⟩ := ih
      refine ⟨x :: before, after, by rw [hl]; rfl, by rw [hins]; rfl, fun y hy => ?_, hafter⟩
      obtain rfl | hy := List.mem_cons.mp hy
      · simpa using h
      · exact hbefore y hy

theorem joinWaiting_get (s : State) (b b' : Bank) (e : WaitEntry) :
    (s.joinWaiting b e).drivers.get b'
      = if b' = b then { s.drivers.get b with waiting := s.insertWait e (s.drivers.get b).waiting } else s.drivers.get b' := by
  simp [joinWaiting]

theorem joinWaiting_waitsOn_self (s : State) (b : Bank) (e : WaitEntry) :
    ((s.joinWaiting b e).waitsOn b).Perm (e.slot :: s.waitsOn b) := by
  obtain ⟨before, after, hl, hins, -, -⟩ := insertWait_split s e (s.drivers.get b).waiting
  rw [waitsOn, waitsOn, joinWaiting_get, if_pos rfl, hins, hl]
  simp only [List.map_append, List.map_cons]
  exact List.perm_middle

theorem joinWaiting_waitsOn_other (s : State) {b b' : Bank} (h : b' ≠ b) (e : WaitEntry) :
    (s.joinWaiting b e).waitsOn b' = s.waitsOn b' := by
  rw [waitsOn, waitsOn, joinWaiting_get, if_neg h]

theorem joinWaiting_runsOn (s : State) (b : Bank) (e : WaitEntry) : (s.joinWaiting b e).runsOn = s.runsOn := by
  funext b'
  rw [runsOn_eq, runsOn_eq, joinWaiting_get]
  split
  · next h => rw [h]
  · rfl

theorem joinWaiting_fireLine (s : State) (b : Bank) (e : WaitEntry) : (s.joinWaiting b e).fireLine = s.fireLine := by
  funext c
  simp [fireLine, joinWaiting]

/-- The bank of every cylinder is as it was when its entry's bank is. -/
theorem bankOf_congr {s u : State} (h : ∀ c, (u.table.get c).bank = (s.table.get c).bank) : u.bankOf = s.bankOf := by
  funext c
  rw [bankOf, bankOf, h]

theorem setCylinder_bankOf {s : State} (c : Cylinder) {e : CylinderStatus} (h : e.bank = (s.table.get c).bank) :
    (s.setCylinder c e).bankOf = s.bankOf := by
  refine bankOf_congr fun d => ?_
  rw [setCylinder_table, Eight.get_set]
  split
  · next hd => rw [hd, h]
  · rfl

theorem closePulse_keeps (s : State) (p : RunningPulse) (r : Record) (why : PulseEnd) (driven : Nat) :
    (s.closePulse p r why driven).bank = (s.table.get r.cylinder).bank
      ∧ (s.closePulse p r why driven).tdc = (s.table.get r.cylinder).tdc
      ∧ (s.closePulse p r why driven).released = (s.table.get r.cylinder).released
      ∧ (s.closePulse p r why driven).lastFired = (s.table.get r.cylinder).lastFired
      ∧ (s.closePulse p r why driven).fired = (s.table.get r.cylinder).fired + driven
      ∧ (s.closePulse p r why driven).streak = if p.peakSeen then 0 else (s.table.get r.cylinder).streak := by
  unfold closePulse
  dsimp only
  split
  · split <;> exact ⟨rfl, rfl, rfl, rfl, rfl, rfl⟩
  · exact ⟨rfl, rfl, rfl, rfl, rfl, rfl⟩

/-- A retirement leaves the slot free or with a PENDING record, and the slot in no waiting list. -/
theorem retire_find (s : State) (k : Slot) (r : Record) :
    ∃ x : Option Record, (∀ y ∈ x, y.phase = .pending)
      ∧ ∀ j, (s.retire k r).1.pool.find j = if j = k then x else s.pool.find j := by
  obtain ⟨-, heq⟩ | ⟨-, -, heq⟩ | ⟨-, -, heq⟩ := retire_cases s k r <;> rw [heq]
  · exact ⟨none, by simp, fun j => Pool.find_freeRecord s.pool k j⟩
  · let f (r : Record) : Record := { r with phase := .pending, repeats := r.repeats - 1 }.rechecked
    exact ⟨(s.pool.find k).map f, by simp [f, Record.rechecked], fun j => Pool.find_update s.pool k j (f := f) fun _ => rfl⟩
  · let f (r : Record) : Record := { r with phase := .pending }
    exact ⟨(s.pool.find k).map f, by simp [f], fun j => Pool.find_update s.pool k j (f := f) fun _ => rfl⟩

end State

/-! ### The partition -/

theorem State.retire_partitioned (s : State) (k : Slot) (r : Record) (h : s.pool.partitioned) :
    (s.retire k r).1.pool.partitioned := by
  obtain ⟨-, heq⟩ | ⟨-, -, heq⟩ | ⟨-, -, heq⟩ := State.retire_cases s k r <;> rw [heq]
  · exact Pool.partitioned_freeRecord k h
  · exact Pool.partitioned_update k (fun _ => rfl) h
  · exact Pool.partitioned_update k (fun _ => rfl) h

theorem Record.markFinal_keeps (r : Record) : r.Keeps r.markFinal ∧ r.markFinal.isReleased = r.isReleased
    ∧ r.markFinal.isFiring = r.isFiring ∧ r.markFinal.isPending = r.isPending := by
  unfold Record.markFinal Record.isReleased Record.isFiring Record.isPending
  cases hp : r.phase <;> exact ⟨⟨rfl, rfl, rfl, rfl, rfl, rfl, rfl, rfl, le_rfl⟩, by simp [hp], by simp [hp], by simp [hp]⟩

theorem Record.finalIf_keeps (t : Record → Bool) (r : Record) :
    r.Keeps (if t r then r.markFinal else r) ∧ (if t r then r.markFinal else r).isReleased = r.isReleased
      ∧ (if t r then r.markFinal else r).isFiring = r.isFiring
      ∧ (if t r then r.markFinal else r).isPending = r.isPending := by
  split
  · exact r.markFinal_keeps
  · exact ⟨⟨rfl, rfl, rfl, rfl, rfl, rfl, rfl, rfl, le_rfl⟩, rfl, rfl, rfl⟩

theorem State.setPlanned_slot (planned : Time) (r : Record) :
    (match r.phase with
      | .released f _ => { r with phase := .released f planned }
      | _ => r : Record).slot = r.slot := by
  cases r.phase <;> rfl

/-- Every elementary change keeps each slot in one home (R38). -/
theorem Change.partitioned {w : Bool} {s u : State} (h : Change w s u) (hp : s.pool.partitioned) : u.pool.partitioned := by
  cases h with
  | free k _ => exact Pool.partitioned_freeRecord k hp
  | returned k f _ hf => exact Pool.partitioned_update k (fun r => (hf r).1.slot) hp
  | pulseEnd b p r why _ _ => exact State.retire_partitioned _ p.slot r hp
  | start b r f e planned o _ => exact Pool.partitioned_update r.slot (fun _ => rfl) hp
  | release r d shortened new period _ _ _ _ _ => exact Pool.partitioned_update r.slot (fun _ => rfl) hp
  | replan k r planned late _ _ => exact Pool.partitioned_update k (State.setPlanned_slot planned) hp
  | quarantine k r _ _ => exact Pool.partitioned_quarantineRecord k hp
  | final t => exact Pool.partitioned_mapAll (fun r => (r.finalIf_keeps t).1.slot) hp
  | scrub => exact Pool.partitioned_scrub hp
  | _ => exact hp

end Sys2Proof.Machine
end

section
/-! PROOF. Every elementary change keeps timeline, waiting lists, running pulses and FIRE lines in agreement. -/

namespace Sys2Proof.Machine
namespace State

/-- A record that is not FIRING leaves the timeline, or is PENDING after, and its entry leaves the waiting lists. -/
theorem Agrees.unrelease {s u : State} (h : s.Agrees) {k : Slot} {x : Option Record}
    (hidle : ∀ r, s.pool.find k = some r → r.isFiring = false) (hx : ∀ r ∈ x, r.phase = .pending)
    (hfind : ∀ j, u.pool.find j = if j = k then x else s.pool.find j) (htable : u.table = s.table)
    (hwaits : u.waitsOn = fun b => (s.waitsOn b).filter fun j => j != k) (hruns : u.runsOn = s.runsOn)
    (hlines : u.fireLine = s.fireLine) : u.Agrees := by
  obtain ⟨hrel, hfire⟩ := Pool.at_of_find_pending hfind hx
  have hsame : u.pool.firingAt = s.pool.firingAt := by
    rw [hfire, Function.update_eq_self_iff, Pool.firingAt_eq_none hidle]
  have hbank : u.bankOf = s.bankOf := bankOf_congr fun c => by rw [htable]
  unfold Agrees
  rw [hrel, hsame, hbank, hwaits, hruns, hlines]
  exact Agreement.unrelease h k

theorem freeSlot_agrees {s : State} (h : s.Agrees) {k : Slot}
    (hidle : ∀ r, s.pool.find k = some r → r.isFiring = false) : (s.freeSlot k).Agrees :=
  h.unrelease hidle (x := none) (by simp) (fun j => Pool.find_freeRecord s.pool k j) rfl (dropWaiting_waitsOn s k)
    (dropWaiting_runsOn s k) rfl

theorem returned_agrees {s : State} (h : s.Agrees) {k : Slot} {f : Record → Record}
    (hidle : ∀ r, s.pool.find k = some r → r.isFiring = false) (hf : ∀ r : Record, r.Keeps (f r) ∧ (f r).phase = .pending) :
    ((s.dropWaiting k).updateRecord k f).Agrees :=
  h.unrelease hidle (x := (s.pool.find k).map f) (by simp [(hf _).2])
    (fun j => Pool.find_update s.pool k j fun r => (hf r).1.slot) rfl (dropWaiting_waitsOn s k) (dropWaiting_runsOn s k) rfl

theorem quarantine_agrees {s : State} (h : s.Agrees) {k : Slot} {r : Record} (hfind : s.pool.find k = some r)
    (hpending : r.isPending = true) : (s.setPool (s.pool.quarantineRecord k)).Agrees := by
  have hphase : r.phase = .pending := by
    unfold Record.isPending at hpending
    cases hp : r.phase <;> simp_all
  have hrel : s.pool.releasedAt k = none := by simp [Pool.releasedAt, hfind, Record.isReleased, hphase]
  refine h.unrelease (k := k) (fun x hx => ?_) (x := none) (by simp)
    (fun j => Pool.find_quarantineRecord s.pool k j) rfl (funext fun b => (h.filter_waits hrel b).symm) rfl rfl
  cases hfind.symm.trans hx
  exact not_isFiring_of_isPending hpending

/-- The record of a bank's running pulse leaves the timeline, or is PENDING after; bank and FIRE line go off. -/
theorem closeBank_agrees {s : State} (h : s.Agrees) {b : Bank} {p : RunningPulse} {r : Record} (why : PulseEnd)
    (hrun : s.runningPulse b = some p) (hfind : s.pool.find p.slot = some r) : (s.closeBank b p r why).Agrees := by
  have hruns : s.runsOn b = some p.slot := runsOn_eq_some.mpr ⟨p, hrun, rfl⟩
  obtain ⟨c, hc, -⟩ := (h.runs b p.slot).mp hruns
  obtain ⟨x, hx, hfiring, rfl⟩ := Pool.firingAt_eq_some.mp hc
  cases hfind.symm.trans hx
  have hrel : s.pool.releasedAt p.slot = none := Pool.releasedAt_eq_none fun y hy => by
    cases hfind.symm.trans hy
    cases hreleased : r.isReleased
    · rfl
    · rw [not_isFiring_of_isReleased hreleased] at hfiring
      cases hfiring
  obtain ⟨x, hxp, hfind'⟩ := retire_find (((s.setBankState b (.recovery (after s.timeBase s.engine.config.bankRecovery))).negateFire
    r.cylinder).setCylinder r.cylinder (s.closePulse p r why (passedBy s.timeBase (s.actualStart r)))) p.slot r
  obtain ⟨hrel', hfire'⟩ := Pool.at_of_find_pending hfind' hxp
  have hdrivers := retire_drivers (((s.setBankState b (.recovery (after s.timeBase s.engine.config.bankRecovery))).negateFire
    r.cylinder).setCylinder r.cylinder (s.closePulse p r why (passedBy s.timeBase (s.actualStart r)))) p.slot r
  have hbank : (s.closeBank b p r why).bankOf = s.bankOf := by
    refine (bankOf_congr fun d => ?_).trans
      (setCylinder_bankOf r.cylinder (closePulse_keeps s p r why (passedBy s.timeBase (s.actualStart r))).1)
    rw [closeBank, retire_table]
    rfl
  have hwaits : (s.closeBank b p r why).waitsOn = s.waitsOn := by
    funext d
    have hd : (s.closeBank b p r why).waitsOn d = ((s.setBankState b (.recovery (after s.timeBase
        s.engine.config.bankRecovery))).dropWaiting p.slot).waitsOn d := by
      simp only [waitsOn, closeBank, hdrivers]
      cases d <;> rfl
    rw [hd, dropWaiting_waitsOn, setBankState_waitsOn]
    exact h.filter_waits hrel d
  have hrunsOn (d : Bank) : (s.closeBank b p r why).runsOn d = if d = b then none else s.runsOn d := by
    have hd : (s.closeBank b p r why).runsOn d = ((s.setBankState b (.recovery (after s.timeBase
        s.engine.config.bankRecovery))).dropWaiting p.slot).runsOn d := by
      simp only [runsOn_eq, closeBank, hdrivers]
      cases d <;> rfl
    rw [hd, dropWaiting_runsOn, setBankState_runsOn]
    rfl
  have hlines (d : Cylinder) : (s.closeBank b p r why).fireLine d = (s.fireLine d && !decide (d = r.cylinder)) := by
    have hd : (s.closeBank b p r why).fireLine d = ((s.setBankState b (.recovery (after s.timeBase
        s.engine.config.bankRecovery))).negateFire r.cylinder).fireLine d := by
      simp only [fireLine, closeBank, hdrivers]
      rfl
    rw [hd, negateFire_fireLine, setBankState_fireLine]
  unfold Agrees
  rw [closeBank, hrel', hfire', ← closeBank, hbank, hwaits]
  have hupd : Function.update s.pool.releasedAt p.slot none = s.pool.releasedAt := by
    rw [Function.update_eq_self_iff, hrel]
  have hgoal := Agreement.finish h hruns hc hrunsOn hlines
  rw [← hupd] at hgoal
  exact hgoal

theorem startPulse_agrees {s : State} (h : s.Agrees) {b : Bank} {r : Record} {f : FiringFields} {e : WaitEntry}
    {planned : Time} (hdue : s.dueHead b = some (r, f, e, planned)) (o : StartOutcome) : (s.startPulse b r f o).Agrees := by
  obtain ⟨hstate, ⟨rest, hwait⟩, hfind, hphase, hslot, -⟩ := dueHead_some hdue
  have hfindr : s.pool.find r.slot = some r := hslot ▸ hfind
  have hreleased : s.pool.releasedAt r.slot = some r.cylinder :=
    Pool.releasedAt_eq_some.mpr ⟨r, hfindr, by simp [Record.isReleased, hphase], rfl⟩
  have hfiring : s.pool.firingAt r.slot = none := Pool.firingAt_eq_none fun x hx => by
    cases hfindr.symm.trans hx
    simp [Record.isFiring, hphase]
  have hbank : s.bankOf r.cylinder = b := by
    obtain ⟨c, hc, hb⟩ := (h.waits b r.slot).mp (by simp [waitsOn, hwait, hslot])
    rw [hreleased] at hc
    cases hc
    exact hb
  have hidle : s.runsOn b = none := by rw [runsOn_eq, hstate]; rfl
  obtain ⟨hrel', hfire'⟩ := Pool.at_of_find (q := (s.startPulse b r f o).pool) fun j =>
    Pool.find_update s.pool r.slot j (f := fun x => { x with phase := .firing f s.timeBase }) fun _ => rfl
  simp only [hfindr, Option.map_some, Option.bind_some, Record.isReleased, Record.isFiring, if_true, Bool.false_eq_true,
    if_false] at hrel' hfire'
  have hwaits : (s.startPulse b r f o).waitsOn = fun d => (s.waitsOn d).filter fun j => j != r.slot := by
    rw [startPulse, setBankState_waitsOn]
    exact dropWaiting_waitsOn s r.slot
  have hruns (d : Bank) : (s.startPulse b r f o).runsOn d = if d = s.bankOf r.cylinder then some r.slot else s.runsOn d := by
    rw [startPulse, setBankState_runsOn, hbank]
    split
    · rfl
    · exact congrFun (dropWaiting_runsOn s r.slot) d
  have hlines (d : Cylinder) : (s.startPulse b r f o).fireLine d = (s.fireLine d || decide (d = r.cylinder)) := by
    rw [startPulse, setBankState_fireLine, assertFire_fireLine]
    rfl
  have hgoal := (Agreement.unrelease h r.slot).start r.cylinder (hbank.symm ▸ hidle) hfiring hruns hlines
  unfold Agrees
  rw [hrel', hfire', hwaits]
  exact hgoal

theorem releaseRecord_agrees {s : State} (h : s.Agrees) {r : Record} (d : Nat) (shortened : Bool) (new period : Nat)
    (hfind : s.pool.find r.slot = some r) (hpending : r.isPending = true) :
    (s.releaseRecord r d shortened new period).Agrees := by
  have hfiring : s.pool.firingAt r.slot = none := Pool.firingAt_eq_none fun x hx => by
    cases hfind.symm.trans hx
    exact not_isFiring_of_isPending hpending
  have hreleased : s.pool.releasedAt r.slot = none := Pool.releasedAt_eq_none fun x hx => by
    cases hfind.symm.trans hx
    unfold Record.isPending at hpending
    unfold Record.isReleased
    cases hp : r.phase <;> simp_all
  obtain ⟨hrel', hfire'⟩ := Pool.at_of_find (q := (s.releaseRecord r d shortened new period).pool) fun j =>
    Pool.find_update s.pool r.slot j (f := fun x => { x with
      phase := .released { duration := d, shortened := shortened, final := false }
        (plannedStart s.timeBase r.start new period) }) fun _ => rfl
  simp only [hfind, Option.map_some, Option.bind_some, Record.isReleased, Record.isFiring, if_true, Bool.false_eq_true,
    if_false] at hrel' hfire'
  have hsame : (s.releaseRecord r d shortened new period).pool.firingAt = s.pool.firingAt := by
    rw [hfire', Function.update_eq_self_iff, hfiring]
  let m : State := (s.updateRecord r.slot fun x => { x with
      phase := .released { duration := d, shortened := shortened, final := false }
        (plannedStart s.timeBase r.start new period) }).setCylinder r.cylinder
    { s.table.get r.cylinder with released := (s.table.get r.cylinder).released + d }
  have hm : s.releaseRecord r d shortened new period = m.joinWaiting (m.bankOf r.cylinder) { slot := r.slot, late := false } := rfl
  have hmbank : m.bankOf = s.bankOf := setCylinder_bankOf (s := s.updateRecord r.slot _) r.cylinder rfl
  have hbank : (s.releaseRecord r d shortened new period).bankOf = s.bankOf := hmbank
  have hruns : (s.releaseRecord r d shortened new period).runsOn = s.runsOn := by
    rw [hm, joinWaiting_runsOn]
    rfl
  have hlines : (s.releaseRecord r d shortened new period).fireLine = s.fireLine := by
    rw [hm, joinWaiting_fireLine]
    rfl
  unfold Agrees
  rw [hrel', hsame, hbank, hruns, hlines]
  refine Agreement.release h hreleased r.cylinder ?_ fun b hb => ?_
  · rw [hm, hmbank]
    exact joinWaiting_waitsOn_self m _ _
  · rw [hm, hmbank]
    exact joinWaiting_waitsOn_other m hb _

/-- A RELEASED record whose planned start is replaced is found so, and every other as it was. -/
theorem setPlanned_find (s : State) (k j : Slot) (planned : Time) :
    (s.setPlanned k planned).pool.find j
      = if j = k then (s.pool.find k).map fun r =>
          match r.phase with
          | .released f _ => { r with phase := .released f planned }
          | _ => r
        else s.pool.find j :=
  Pool.find_update s.pool k j fun r => by cases r.phase <;> rfl

theorem replan_agrees {s : State} (h : s.Agrees) {k : Slot} {r : Record} (planned : Time) (late : Bool)
    (hfind : s.pool.find k = some r) (hreleased : r.isReleased = true) :
    ((s.setPlanned k planned).reposition k (s.bankOf r.cylinder) late).Agrees := by
  have hpool : ((s.setPlanned k planned).reposition k (s.bankOf r.cylinder) late).pool = (s.setPlanned k planned).pool := rfl
  have hrel : s.pool.releasedAt k = some r.cylinder := Pool.releasedAt_eq_some.mpr ⟨r, hfind, hreleased, rfl⟩
  have hkeep : (s.setPlanned k planned).pool.releasedAt = s.pool.releasedAt
      ∧ (s.setPlanned k planned).pool.firingAt = s.pool.firingAt := by
    obtain ⟨hrel', hfire'⟩ := Pool.at_of_find fun j => setPlanned_find s k j planned
    cases hp : r.phase with
    | pending => simp [Record.isReleased, hp] at hreleased
    | firing f t => simp [Record.isReleased, hp] at hreleased
    | released f t =>
      simp only [hfind, Option.map_some, hp, Option.bind_some, Record.isReleased, Record.isFiring, if_true,
        Bool.false_eq_true, if_false] at hrel' hfire'
      refine ⟨?_, ?_⟩
      · rw [hrel', Function.update_eq_self_iff, hrel]
      · rw [hfire', Function.update_eq_self_iff]
        exact (Pool.firingAt_eq_none fun x hx => by
          cases hfind.symm.trans hx
          exact not_isFiring_of_isReleased hreleased).symm
  have hmem : k ∈ s.waitsOn (s.bankOf r.cylinder) := (h.waits _ k).mpr ⟨_, hrel, rfl⟩
  unfold Agrees
  rw [hpool, hkeep.1, hkeep.2]
  refine (Agreement.reorder (waits := s.waitsOn) ?_ fun b => ?_)
  · have hruns : ((s.setPlanned k planned).reposition k (s.bankOf r.cylinder) late).runsOn = s.runsOn := by
      rw [reposition, joinWaiting_runsOn, dropWaiting_runsOn]
      rfl
    have hlines : ((s.setPlanned k planned).reposition k (s.bankOf r.cylinder) late).fireLine = s.fireLine := by
      rw [reposition, joinWaiting_fireLine]
      rfl
    rw [hruns, hlines]
    exact h
  · have hdrop : ((s.setPlanned k planned).dropWaiting k).waitsOn b = (s.waitsOn b).filter fun j => j != k :=
      congrFun (dropWaiting_waitsOn (s.setPlanned k planned) k) b
    by_cases hb : b = s.bankOf r.cylinder
    · subst hb
      refine (joinWaiting_waitsOn_self _ _ _).trans ?_
      rw [hdrop, ← (h.nodup _).erase_eq_filter]
      exact (List.perm_cons_erase hmem).symm
    · rw [reposition, joinWaiting_waitsOn_other _ hb, hdrop]
      refine .of_eq (List.filter_eq_self.mpr fun j hj => ?_)
      have hne : j ≠ k := fun hjk => by
        obtain ⟨c, hc, hbank⟩ := (h.waits b j).mp hj
        rw [hjk, hrel] at hc
        cases hc
        exact hb hbank.symm
      simpa using hne

theorem setBankState_agrees {s : State} (h : s.Agrees) {b : Bank} {x : BankState} (hx : s.runsOn b = x.slot) :
    (s.setBankState b x).Agrees := by
  refine h.congr (fun _ => rfl) (fun _ => rfl) rfl (setBankState_waitsOn s b x) (funext fun d => ?_)
    (setBankState_fireLine s b x)
  rw [setBankState_runsOn]
  split
  · next hd => rw [hd, hx]
  · rfl

end State

/-- Every elementary change keeps the timeline in agreement (R38, R110, R113). -/
theorem Change.agrees {w : Bool} {s u : State} (h : Change w s u) (hp : s.pool.partitioned) (ha : s.Agrees) : u.Agrees := by
  cases h with
  | free k hidle => exact State.freeSlot_agrees ha (hidle hp)
  | returned k f hidle hf => exact State.returned_agrees ha (hidle hp) hf
  | pulseEnd b p r why hrun hfind => exact State.closeBank_agrees ha why hrun hfind
  | recover b p ends hrun hfind =>
    obtain ⟨c, hc, -⟩ := (ha.runs b p.slot).mp (State.runsOn_eq_some.mpr ⟨p, hrun, rfl⟩)
    obtain ⟨r, hr, -⟩ := Pool.firingAt_eq_some.mp hc
    rw [hfind] at hr
    cases hr
  | idle b ends hstate => exact State.setBankState_agrees ha (by rw [State.runsOn_eq, hstate]; rfl)
  | pulse b p p' hrun hslot _ =>
    exact State.setBankState_agrees ha (by rw [State.runsOn, hrun]; exact congrArg some hslot.symm)
  | stageLine b level =>
    exact ha.congr (fun _ => rfl) (fun _ => rfl) rfl (State.setStageLine_waitsOn s b level)
      (State.setStageLine_runsOn s b level) (State.setStageLine_fireLine s b level)
  | start b r f e planned o hdue => exact State.startPulse_agrees ha hdue o
  | release r d shortened new period hfind hpending _ _ _ =>
    exact State.releaseRecord_agrees ha d shortened new period hfind hpending
  | replan k r planned late hfind hreleased => exact State.replan_agrees ha planned late hfind hreleased
  | quarantine k r hfind hpending => exact State.quarantine_agrees ha hfind hpending
  | final t =>
    have hmap := Pool.at_of_find_map (q := (s.mapRecords fun r => if t r then r.markFinal else r).pool)
      (fun j => Pool.find_mapAll s.pool (fun r => (r.finalIf_keeps t).1.slot) j)
      fun r => ⟨(r.finalIf_keeps t).1.cylinder, (r.finalIf_keeps t).2.1, (r.finalIf_keeps t).2.2.1⟩
    exact ha.congr (congrFun hmap.1) (congrFun hmap.2) rfl rfl rfl rfl
  | table x htended =>
    exact ha.congr (fun _ => rfl) (fun _ => rfl) (State.bankOf_congr fun c => (htended c).bank) rfl rfl rfl
  | boundary c => exact ha.congr (fun _ => rfl) (fun _ => rfl) (State.setCylinder_bankOf c rfl) rfl rfl rfl
  | _ => exact ha.congr (fun _ => rfl) (fun _ => rfl) rfl rfl rfl rfl

/-- Every elementary change keeps a sound timeline. -/
theorem Change.timelineSound {w : Bool} {s u : State} (h : Change w s u) (hs : s.timelineSound) : u.timelineSound := by
  obtain ⟨hp, ha⟩ := (State.timelineSound_iff s).mp hs
  exact (State.timelineSound_iff u).mpr ⟨h.partitioned hp, h.agrees hp ha⟩

/-- What every elementary change keeps, every path keeps. -/
theorem Path.keeps {w : Bool} {P : State → Prop} (hP : ∀ s u, Change w s u → P s → P u) {s u : State} (h : Path w s u)
    (hs : P s) : P u := by
  induction h with
  | refl => exact hs
  | tail _ hstep ih => exact hP _ _ hstep ih

theorem Path.timelineSound {w : Bool} {s u : State} (h : Path w s u) : s.timelineSound → u.timelineSound :=
  h.keeps fun _ _ hc => hc.timelineSound

theorem Path.partitioned {w : Bool} {s u : State} (h : Path w s u) : s.pool.partitioned → u.pool.partitioned :=
  h.keeps (P := fun s => s.pool.partitioned) fun _ _ hc => hc.partitioned

end Sys2Proof.Machine
end

section
/-! PROOF. What leaves no record RELEASED: the sweep of OVERSPEED and the leaving-SYNCED notice (R112, R130). -/

namespace Sys2Proof.Machine
namespace State

/-- One slot is left without a RELEASED record, and every other slot holds what it held. -/
def Unreleases (s u : State) (k : Slot) : Prop :=
  ∃ x : Option Record, (∀ r ∈ x, r.isReleased = false) ∧ ∀ j, u.pool.find j = if j = k then x else s.pool.find j

theorem unreleases_self {s : State} {k : Slot} (h : ∀ r, s.pool.find k = some r → r.isReleased = false) :
    s.Unreleases s k :=
  ⟨s.pool.find k, h, fun j => by split <;> simp [*]⟩

theorem isReleased_of_pending {r : Record} (h : r.phase = .pending) : r.isReleased = false := by
  simp [Record.isReleased, h]

/-- The end of a firing opportunity leaves the slot free or PENDING. -/
theorem endOpportunity_unreleases {s : State} {k : Slot} {r : Record} (h : s.pool.find k = some r) (o : Outcome)
    (cycle : Word16) (start : Option Time) (d : Nat) (noRise : Bool) :
    s.Unreleases (s.endOpportunity k o cycle start d noRise) k := by
  obtain ⟨x, hx, hfind⟩ := retire_find s k r
  exact ⟨x, fun y hy => isReleased_of_pending (hx y hy), fun j => by rw [endOpportunity_pool h]; exact hfind j⟩

theorem suppressReleased_unreleases (s : State) (k : Slot) (c : SuppressCause) :
    s.Unreleases (s.suppressReleased k c) k := by
  unfold suppressReleased
  cases hf : s.pool.find k with
  | none => exact unreleases_self (by simp [hf])
  | some r =>
    dsimp only
    split
    · exact endOpportunity_unreleases hf _ _ _ _ _
    · next hr => exact unreleases_self fun x hx => (Option.some.inj (hf.symm.trans hx)) ▸ Bool.eq_false_of_not_eq_true hr

theorem leaveReleased_unreleases (s : State) (k : Slot) : s.Unreleases (s.leaveReleased k) k := by
  unfold leaveReleased
  cases hf : s.pool.find k with
  | none => exact unreleases_self (by simp [hf])
  | some r =>
    dsimp only
    split
    · split
      · exact ⟨none, by simp, fun j => Pool.find_freeRecord s.pool k j⟩
      · let f (r : Record) : Record := { r with phase := .pending }
        exact ⟨(s.pool.find k).map f, by simp [f, Record.isReleased], fun j =>
          Pool.find_update s.pool k j (f := f) fun _ => rfl⟩
    · next hr => exact unreleases_self fun x hx => (Option.some.inj (hf.symm.trans hx)) ▸ Bool.eq_false_of_not_eq_true hr

/-- After a run over some slots, a record that is still RELEASED stands at another slot, as before. -/
theorem foldl_unreleases {f : State → Slot → State} (hf : ∀ (s : State) k, s.Unreleases (f s k) k) (ks : List Slot) (s : State)
    {j : Slot} {r : Record} (h : (ks.foldl f s).pool.find j = some r) (hr : r.isReleased = true) :
    j ∉ ks ∧ s.pool.find j = some r := by
  induction ks generalizing s with
  | nil => exact ⟨List.not_mem_nil, h⟩
  | cons k ks ih =>
    obtain ⟨hnot, hfind⟩ := ih (f s k) h
    obtain ⟨x, hx, hx'⟩ := hf s k
    rw [hx'] at hfind
    by_cases hj : j = k
    · rw [if_pos hj] at hfind
      rw [hx r hfind] at hr
      cases hr
    · rw [if_neg hj] at hfind
      exact ⟨by simp [hj, hnot], hfind⟩

/-- In a sound timeline a run over every waiting slot leaves no record RELEASED (R112, R130). -/
theorem noneReleased_of_foldl {f : State → Slot → State} (hf : ∀ (s : State) k, s.Unreleases (f s k) k) {s : State}
    (hs : s.timelineSound) {ks : List Slot} (hks : ∀ k ∈ s.waitingSlots, k ∈ ks)
    (hpart : (ks.foldl f s).pool.partitioned) : (ks.foldl f s).noneReleased := by
  intro r hr
  cases hrel : r.isReleased with
  | false => rfl
  | true =>
    obtain ⟨hnot, hfind⟩ := foldl_unreleases hf ks s (Pool.find_of_mem (Pool.partitioned_slots_nodup hpart) hr) hrel
    have hagrees := ((timelineSound_iff s).mp hs).2
    have hwait : r.slot ∈ s.waitsOn (s.bankOf r.cylinder) :=
      (hagrees.waits _ _).mpr ⟨_, Pool.releasedAt_eq_some.mpr ⟨r, hfind, hrel, rfl⟩, rfl⟩
    exact absurd (hks _ ((mem_waitingSlots s _).mpr ⟨_, hwait⟩)) hnot

/-- The sweep of OVERSPEED leaves no record RELEASED (R130). -/
theorem overspeedSweep_noneReleased {s : State} (hs : s.timelineSound) : s.overspeedSweep.noneReleased :=
  noneReleased_of_foldl (fun s k => suppressReleased_unreleases s k .overspeed) hs (fun _ h => h)
    ((overspeedSweep_path true s).partitioned hs.1)

/-- The leaving-SYNCED notice leaves no record RELEASED (R112). -/
theorem leavingSynced_noneReleased {s : State} (hs : s.timelineSound) : s.leavingSynced.noneReleased :=
  noneReleased_of_foldl leaveReleased_unreleases hs (fun _ h => (leavingOrder_perm s).mem_iff.mpr h)
    ((leavingSynced_path true s).partitioned hs.1)

/-- Records are RELEASED only while the clock is SYNCED and no overspeed suppression is in force (R112, R129). -/
abbrev releaseAllowed (s : State) : Prop :=
  s.noneReleased ∨ (s.clock.sync = .synced ∧ s.overspeedSuppression = false)

/-- The state after an accepted plan: the marked records displaced, and the slot at the head of the free list filled (R92, R93). -/
def filled (s : State) (q : PlanInput) (marks : List Mark) (d : Nat) (tag : Byte) (carried : Bool) (repeats : Nat)
    (report : Bool) (k : Slot) : State :=
  (s.displaceMarked marks).setPool
    ((s.displaceMarked marks).pool.pop.insert ((s.displaceMarked marks).filledRecord k q d tag carried repeats report))

end State

/-- What the placement plan is given by a request with its fields in range: they are those of a record that may stand in the timeline. -/
structure PlanInput.Sound (s : State) (q : PlanInput) : Prop where
  priority : 1 ≤ q.priority ∧ q.priority ≤ 15
  duration : 20 ≤ q.duration ∧ q.duration ≤ 4000
  configured : q.cylinder ∈ s.configured
  offset : (s.engine.config.window q.kind).lo ≤ q.offset ∧ q.offset ≤ (s.engine.config.window q.kind).hi

open State

/-- The changes a run of the part is made of, time apart: an elementary change that sets nothing aside, a path that sets something aside and
has it in place again at its end, a record placed, amended, and the changes of a reset and of the configuration. -/
inductive Act : State → State → Prop
  | calm {s u : State} (h : Change false s u) : Act s u
  | whole {s u : State} (h : Path true s u) (hallowed : s.timelineSound → s.releaseAllowed → u.releaseAllowed)
      (hcarry : s.carrySound → u.carrySound) : Act s u
  | place (s : State) (q : PlanInput) (marks : List Mark) (d : Nat) (bc : Bool) (tag : Byte) (carried : Bool) (repeats : Nat)
      (report : Bool) (k : Slot) (rest : List Slot) (hplan : s.planFit q = .accepted marks d bc)
      (hsound : s.rangesSound → s.bounded → q.Sound s) (hexclude : q.exclude = none) (hrepeats : repeats ≤ 255)
      (hfree : (s.displaceMarked marks).pool.free = k :: rest) :
      Act s (s.filled q marks d tag carried repeats report k)
  | amend (s : State) (r : Record) (q : PlanInput) (marks : List Mark) (d : Nat) (bc : Bool)
      (hfind : s.pool.find r.slot = some r) (hpending : r.isPending = true) (hplan : s.planFit q = .accepted marks d bc)
      (hsound : s.rangesSound → s.bounded → q.Sound s) (hexclude : q.exclude = some r.slot)
      (hcylinder : q.cylinder = r.cylinder) (hkind : q.kind = r.kind) (hpriority : q.priority = r.priority) :
      Act s ((s.displaceMarked marks).replaceAmended r q.offset d)
  | reset (s : State) (lines : ResetLines) : Act s (s.poweredOn lines)
  | config (s : State) (c : EngineConfig) (hstopped : s.clock.sync = .stopped) (hempty : s.pool.records = [])
      (hrange : s.engine.config.inRange → c.inRange) :
      Act s (s.setEngine { config := c, valid := false, geometry := none })
  | commit (s : State) (hstopped : s.clock.sync = .stopped) (hempty : s.pool.records = [])
      (hconsistent : s.engine.config.inconsistent = none) :
      Act s ((s.setEngine { config := s.engine.config, valid := true, geometry := some s.engine.config.derive }).setTable
        (s.table.map s.engine.config.entry))

/-- A run of the part at one time. -/
abbrev Run : State → State → Prop := Relation.ReflTransGen Act

theorem Act.run {s u : State} (h : Act s u) : Run s u := Relation.ReflTransGen.single h

theorem Change.run {s u : State} (h : Change false s u) : Run s u := (Act.calm h).run

theorem Path.run {s u : State} (h : Path false s u) : Run s u := Relation.ReflTransGen.mono (fun _ _ => Act.calm) _ _ h

/-- A fold of operations that are runs is a run. -/
theorem Run.foldl {α : Type} {f : State → α → State} (h : ∀ s a, Run s (f s a)) (l : List α) (s : State) :
    Run s (l.foldl f s) := by
  induction l generalizing s with
  | nil => exact .refl
  | cons a l ih => exact (h s a).trans (ih _)

/-- A fold of operations that are runs from states with some property, which they keep, is a run. -/
theorem Run.foldl_of {α : Type} {P : State → Prop} {f : State → α → State} (l : List α)
    (h : ∀ s, ∀ a ∈ l, P s → Run s (f s a) ∧ P (f s a)) {s : State} (hs : P s) :
    Run s (l.foldl f s) ∧ P (l.foldl f s) := by
  induction l generalizing s with
  | nil => exact ⟨.refl, hs⟩
  | cons a l ih =>
    obtain ⟨hrun, hP⟩ := h s a List.mem_cons_self hs
    obtain ⟨hruns, hPs⟩ := ih (fun s b hb => h s b (List.mem_cons_of_mem a hb)) hP
    exact ⟨hrun.trans hruns, hPs⟩

namespace State

/-! ### The angle clock (chapter 1) -/

/-- Whether the carry counts are in place depends on the carry counts, the carry limit and the sync state alone. -/
theorem carrySound_congr {s u : State} (htable : u.table = s.table) (hengine : u.engine = s.engine)
    (hclock : u.clock.sync = .stopped → s.clock.sync = .stopped) (h : s.carrySound) : u.carrySound := by
  intro c hc
  obtain ⟨hle, hzero⟩ := h c hc
  rw [htable, hengine]
  exact ⟨hle, fun hstopped => hzero (hclock hstopped)⟩

/-- The clock leaves SYNCED for another state than STOPPED, with the leaving-SYNCED notice (R9, R112). -/
theorem leave_act (s : State) (x : Clock) (hsound : s.clockSound → (s.setClock x).clockSound) (hsync : x.sync ≠ .stopped) :
    Act s (s.setClock x).raiseSync.leavingSynced := by
  have hpath : Path true s (s.setClock x).raiseSync :=
    (Change.clock s x hsound (.inl rfl)).path.trans (raiseSync_path true _)
  refine .whole (hpath.trans (leavingSynced_path true _)) (fun hs _ => .inl ?_) fun hc => ?_
  · exact leavingSynced_noneReleased (hpath.timelineSound hs)
  · exact carrySound_congr (s := s) (by simp) (by simp) (by simpa using fun h => absurd h hsync) hc

/-- A clock in GAP_FOUND and in SYNCED has a P that is not 0, an armed stall timer, and the angle of its tooth (R1 to R8). -/
theorem clockSound_iff (s : State) : s.clockSound = true ↔ (∀ p, s.clock.period = some p → 0 < p) ∧
    (s.clock.sync = .stopped → s.clock.period = none ∧ s.clock.stall = none ∧ s.clock.normalSeen = false) ∧
    (s.clock.sync ≠ .stopped → s.clock.stall.isSome = true) ∧
    (s.clock.sync = .gapFound → s.clock.period.isSome = true ∧ s.clock.tooth ≤ 57 ∧ s.clock.lastAngle = 96 * s.clock.tooth) ∧
    (s.clock.sync = .synced → s.clock.period.isSome = true ∧ s.clock.tooth ≤ 57
      ∧ s.clock.lastAngle = 96 * s.clock.tooth + 5760 * s.clock.revolution.val) := by
  unfold clockSound
  cases s.clock.period <;> cases s.clock.sync <;> simp [and_assoc]

theorem expectedTooth_le {n : Nat} (h : n ≤ 57) : expectedTooth n ≤ 57 := by
  unfold expectedTooth Config.lastToothIndex
  split <;> omega

/-- A tooth that the noise filter lets through gives a P that is not 0 (R1, R2). -/
theorem acceptTooth_change (s : State) (cls : IntervalClass) (interval : Nat) (hstarted : s.clock.sync ≠ .stopped)
    (hinterval : s.clockSound → 0 < interval) : Change false s (s.acceptTooth cls interval) := by
  refine .clock s _ (fun hs => ?_) (.inr (.inl rfl))
  have hpos := hinterval hs
  rw [clockSound_iff] at hs ⊢
  obtain ⟨hp, -, -, hgap, hsynced⟩ := hs
  refine ⟨fun p => ?_, fun h => absurd h hstarted, fun _ => rfl, fun h => ?_, fun h => ?_⟩
  · simp only [setClock_clock]
    split
    · rintro ⟨⟩
      exact hpos
    · exact hp p
  · obtain ⟨hsome, hrest⟩ := hgap h
    exact ⟨by simp only [setClock_clock]; split <;> simp [hsome], hrest⟩
  · obtain ⟨hsome, hrest⟩ := hsynced h
    exact ⟨by simp only [setClock_clock]; split <;> simp [hsome], hrest⟩

theorem firstTooth_run (s : State) (hstopped : s.clock.sync = .stopped) : Run s s.firstTooth := by
  have hclock : Change false s (s.setClock { s.clock with
      lastTooth := s.timeBase, stall := some (after s.timeBase (s.engine.config.stallTimeout * 1000)), period := none,
      normalSeen := false, sync := .hunt }) :=
    .clock s _ (fun _ => rfl) (.inr (.inr ⟨by simp [hstopped], by simp⟩))
  exact hclock.run.trans (raiseSync_path false _).run

theorem huntTooth_run (s : State) (cls : IntervalClass) (hhunt : s.clock.sync = .hunt)
    (hperiod : cls = .gapLike → s.clock.period.isSome = true) : Run s (s.huntTooth cls) := by
  unfold huntTooth
  split
  · next hcls =>
    split
    · have hclock : Change false s (s.setClock { s.clock with
          tooth := 0, lastAngle := 0, normalSeen := false, sync := .gapFound }) := by
        refine .clock s _ (fun hs => ?_) (.inr (.inr ⟨by simp [hhunt], by simp⟩))
        rw [clockSound_iff] at hs ⊢
        obtain ⟨hp, -, hstall, -, -⟩ := hs
        exact ⟨hp, by simp, fun _ => hstall (by simp [hhunt]), fun _ => ⟨hperiod hcls, by simp, rfl⟩, by simp⟩
      exact hclock.run.trans (raiseSync_path false _).run
    · exact .refl
  · refine Change.run (.clock s _ (fun hs => ?_) (.inr (.inl rfl)))
    rw [clockSound_iff] at hs ⊢
    obtain ⟨hp, -, hstall, -, -⟩ := hs
    exact ⟨hp, by simp [hhunt], fun h => hstall h, by simp [hhunt], by simp [hhunt]⟩

/-- A clock set to HUNT keeps a P that is not 0 and its armed stall timer. -/
theorem clockSound_hunt {s : State} {x : Clock} (hs : s.clockSound) (hstarted : s.clock.sync ≠ .stopped)
    (hx : x = { s.clock with normalSeen := false, sync := .hunt }) : (s.setClock x).clockSound := by
  rw [clockSound_iff] at hs ⊢
  obtain ⟨hp, -, hstall, -, -⟩ := hs
  subst hx
  exact ⟨hp, by simp, fun _ => hstall hstarted, by simp, by simp⟩

theorem gapFoundTooth_run (s : State) (cls : IntervalClass) (hgap : s.clock.sync = .gapFound) :
    Run s (s.gapFoundTooth cls) := by
  unfold gapFoundTooth
  dsimp only
  split
  · refine Change.run (.clock s _ (fun hs => ?_) (.inr (.inl rfl)))
    rw [clockSound_iff] at hs ⊢
    obtain ⟨hp, -, hstall, hfound, -⟩ := hs
    obtain ⟨hsome, htooth, -⟩ := hfound hgap
    exact ⟨hp, by simp [hgap], fun h => hstall h, fun _ => ⟨hsome, expectedTooth_le htooth, rfl⟩, by simp [hgap]⟩
  · have hclock : Change false (s.handFault .clock .syncError none none)
        ((s.handFault .clock .syncError none none).setClock { s.clock with normalSeen := false, sync := .hunt }) :=
      .clock _ _ (fun hs => clockSound_hunt hs (by simp [hgap]) rfl) (.inr (.inr ⟨by simp [hgap], by simp⟩))
    exact ((handFault_change false s _ _ _ _).run.trans hclock.run).trans (raiseSync_path false _).run

/-- A tooth in SYNCED keeps its clock sound: the tooth, its revolution and its angle belong together (R5, R6). -/
theorem clockSound_synced {s : State} {x : Clock} (hs : s.clockSound) (hsync : s.clock.sync = .synced)
    (hx : x.period = s.clock.period ∧ x.stall = s.clock.stall ∧ x.sync = s.clock.sync) (htooth : x.tooth ≤ 57)
    (hangle : x.lastAngle = 96 * x.tooth + 5760 * x.revolution.val) : (s.setClock x).clockSound := by
  obtain ⟨hperiod, hstall, hx⟩ := hx
  rw [clockSound_iff] at hs ⊢
  simp only [setClock_clock, hperiod, hstall, hx]
  obtain ⟨hp, -, hst, -, hsy⟩ := hs
  exact ⟨hp, by simp [hsync], hst, by simp [hsync], fun h => ⟨(hsy h).1, htooth, hangle⟩⟩

/-- The close of the cam history while the clock stays SYNCED: a change of the cam history alone (R14). -/
theorem clockSound_cam {s : State} (hs : s.clockSound) (cam : CamHistory) :
    (s.setClock { s.clock with cam := cam }).clockSound := by
  rw [clockSound_iff] at hs ⊢
  exact hs

theorem setCam_change (s : State) (cam : CamHistory) : Change false s (s.setClock { s.clock with cam := cam }) :=
  .clock s _ (fun hs => clockSound_cam hs cam) (.inr (.inl rfl))

/-- What the close of the cam history does: it stays SYNCED with another history, after CAM_FAULT perhaps, or it leaves SYNCED for
GAP_FOUND after PHASE_ERROR (R14). -/
theorem closeCycle_cases (s : State) :
    (∃ cam, s.closeCycle = (((s.handFault .clock .camFault none none).setClock { s.clock with cam := cam }), false))
    ∨ (∃ cam, s.closeCycle = (s.setClock { s.clock with cam := cam }, false))
    ∨ s.closeCycle = (((s.handFault .clock .phaseError none none).setClock
        { s.clock with cam := emptyCam, tooth := 0, lastAngle := 0, sync := .gapFound }).raiseSync, true) := by
  unfold closeCycle
  dsimp only
  split_ifs
  · exact .inl ⟨_, rfl⟩
  · exact .inr (.inr rfl)
  · exact .inr (.inl ⟨_, rfl⟩)
  · exact .inr (.inl ⟨_, rfl⟩)

/-- The revolution of the tooth expected next (R6). -/
def nextRevolution (s : State) : Fin 2 :=
  if expectedTooth s.clock.tooth = 0 then s.clock.revolution + 1 else s.clock.revolution

/-- The clock at the tooth expected next (R5, R6). -/
def toothClock (s : State) : Clock :=
  { s.clock with
    tooth := expectedTooth s.clock.tooth
    revolution := s.nextRevolution
    lastAngle := toothAngle (expectedTooth s.clock.tooth) s.nextRevolution }

/-- A tooth out of place loses SYNCED (R5). -/
theorem syncedTooth_of_loss {s : State} {cls : IntervalClass} (h : ¬ correctTooth (expectedTooth s.clock.tooth) cls = true) :
    s.syncedTooth cls = (s.syncError.leavingSynced, none) :=
  if_neg h

/-- A correct tooth other than the reference tooth of a cycle (R6). -/
theorem syncedTooth_of_tooth {s : State} {cls : IntervalClass} (h : correctTooth (expectedTooth s.clock.tooth) cls = true)
    (hr : ¬ (expectedTooth s.clock.tooth = 0 ∧ s.nextRevolution = 0)) :
    s.syncedTooth cls = (s.setClock s.toothClock, some (s.clock.lastAngle, s.toothClock.lastAngle)) :=
  (if_pos h).trans (if_neg hr)

/-- The reference tooth of a cycle, which stays SYNCED or leaves it by the close of the cam history (R14). -/
theorem syncedTooth_of_reference {s : State} {cls : IntervalClass}
    (h : correctTooth (expectedTooth s.clock.tooth) cls = true)
    (hr : expectedTooth s.clock.tooth = 0 ∧ s.nextRevolution = 0) :
    s.syncedTooth cls
      = match (s.setClock { s.toothClock with cycle := s.clock.cycle + 1 }).closeCycle with
        | (u, true) => (u.leavingSynced, none)
        | (u, false) => (u, some (s.clock.lastAngle, s.toothClock.lastAngle)) :=
  (if_pos h).trans (if_pos hr)

/-- A tooth in SYNCED, with the leaving-SYNCED notice when it ends there; the clock stays SYNCED when the advance has angles (R15). -/
theorem syncedTooth_run (s : State) (cls : IntervalClass) (hsync : s.clock.sync = .synced) :
    Run s (s.syncedTooth cls).1 ∧ ((s.syncedTooth cls).2 ≠ none → (s.syncedTooth cls).1.clock.sync = .synced) := by
  have hstep (cycle : Word16) : Change false s (s.setClock { s.toothClock with cycle := cycle }) := by
    refine .clock s _ (fun hs => clockSound_synced hs hsync ⟨rfl, rfl, rfl⟩ ?_ rfl) (.inr (.inl rfl))
    exact expectedTooth_le (((clockSound_iff s).mp hs).2.2.2.2 hsync).2.1
  by_cases h : correctTooth (expectedTooth s.clock.tooth) cls = true
  · by_cases hr : expectedTooth s.clock.tooth = 0 ∧ s.nextRevolution = 0
    · rw [syncedTooth_of_reference h hr]
      have hrun := (hstep (s.clock.cycle + 1)).run
      generalize hm : s.setClock { s.toothClock with cycle := s.clock.cycle + 1 } = m at hrun ⊢
      have hmsync : m.clock.sync = .synced := by rw [← hm]; exact hsync
      obtain ⟨cam, hclose⟩ | ⟨cam, hclose⟩ | hclose := closeCycle_cases m <;> rw [hclose] <;> dsimp only
      · exact ⟨(hrun.trans (handFault_change false m .clock .camFault none none).run).trans
          (setCam_change (m.handFault .clock .camFault none none) cam).run, fun _ => hmsync⟩
      · exact ⟨hrun.trans (setCam_change m cam).run, fun _ => hmsync⟩
      · refine ⟨(hrun.trans (handFault_change false m .clock .phaseError none none).run).trans (Act.run ?_), by simp⟩
        refine leave_act _ _ (fun hs => ?_) (by simp)
        rw [clockSound_iff] at hs ⊢
        obtain ⟨hp, -, hstall, -, hsy⟩ := hs
        exact ⟨hp, by simp, fun _ => hstall (by simp [hmsync]), fun _ => ⟨(hsy hmsync).1, by simp, rfl⟩, by simp⟩
    · rw [syncedTooth_of_tooth h hr]
      exact ⟨(hstep s.clock.cycle).run, fun _ => hsync⟩
  · rw [syncedTooth_of_loss h]
    refine ⟨(handFault_change false s .clock .syncError none none).run.trans (Act.run ?_), by simp⟩
    exact leave_act (s.handFault .clock .syncError none none) { s.clock with normalSeen := false, sync := .hunt }
      (fun hs => clockSound_hunt hs (by simp [hsync]) rfl) (by simp)

theorem takeTooth_run (s : State) (cls : IntervalClass) (hperiod : cls = .gapLike → s.clock.period.isSome = true) :
    Run s (s.takeTooth cls).1 ∧ ((s.takeTooth cls).2 ≠ none → (s.takeTooth cls).1.clock.sync = .synced) := by
  unfold takeTooth
  split
  · exact ⟨.refl, by simp⟩
  · next h => exact ⟨huntTooth_run s cls h hperiod, by simp⟩
  · next h => exact ⟨gapFoundTooth_run s cls h, by simp⟩
  · next h => exact syncedTooth_run s cls h

theorem camEdge_run (s : State) : Run s s.camEdge := by
  have hphase (revolution : Fin 2) (h : s.clock.sync = .gapFound) : Run s (s.findPhase revolution) := by
    have hclock : Change false s (s.setClock
        { s.clock with
          revolution := revolution
          lastAngle := s.clock.lastAngle + Config.revolutionSteps * revolution.val
          cam := { seen := true, good := true, opposite := false, verdict := false }
          sync := .synced }) := by
      refine .clock s _ (fun hs => ?_) (.inr (.inr ⟨by simp [h], by simp⟩))
      rw [clockSound_iff] at hs ⊢
      obtain ⟨hp, -, hstall, hfound, -⟩ := hs
      obtain ⟨hsome, htooth, hangle⟩ := hfound h
      exact ⟨hp, by simp, fun _ => hstall (by simp [h]), by simp, fun _ => ⟨hsome, htooth, by
        simp only [setClock_clock, Config.revolutionSteps, hangle]⟩⟩
    exact hclock.run.trans (raiseSync_path false _).run
  unfold camEdge
  dsimp only
  split
  · exact .refl
  · exact .refl
  · next h =>
    split_ifs
    · exact hphase 0 h
    · exact hphase 1 h
    · exact .refl
  · unfold classifyCam
    dsimp only
    split_ifs
    · exact (setCam_change s _).run
    · exact (setCam_change s _).run
    · refine (raiseFault_path false s .camFault none none).run.trans ?_
      have hsame : (s.raiseFault .camFault none none).clock = s.clock := raiseFault_clock s _ _ _
      rw [← hsame]
      exact (setCam_change _ _).run

theorem enterStopped_run (s : State) : Run s s.enterStopped := by
  let x : Clock := { s.clock with period := none, normalSeen := false, cam := emptyCam, stall := none, sync := .stopped }
  have hpath : Path true s (s.setClock x).raiseSync := by
    refine (Change.clock s x (fun _ => ?_) (.inl rfl)).path.trans (raiseSync_path true _)
    rw [clockSound_iff]
    exact ⟨by simp [x], fun _ => ⟨rfl, rfl, rfl⟩, by simp [x], by simp [x], by simp [x]⟩
  have hcarry (u : State) : u.clearCarry.carrySound := fun c _ => by
    have hzero : (u.clearCarry.table.get c).carryCount = 0 := by simp [clearCarry]
    exact ⟨by rw [hzero]; exact Nat.zero_le _, fun _ => hzero⟩
  refine Act.run ?_
  by_cases hs : s.clock.sync = .synced
  · have heq : s.enterStopped = (s.setClock x).raiseSync.leavingSynced.clearCarry := by
      unfold enterStopped
      simp only [hs, beq_self_eq_true, if_true]
      rfl
    rw [heq]
    exact .whole ((hpath.trans (leavingSynced_path true _)).trans (clearCarry_change true _).path)
      (fun hsound _ => .inl (leavingSynced_noneReleased (hpath.timelineSound hsound))) fun _ => hcarry _
  · have heq : s.enterStopped = (s.setClock x).raiseSync.clearCarry := by
      unfold enterStopped
      simp only [beq_eq_false_iff_ne.mpr hs, Bool.false_eq_true, if_false]
      rfl
    rw [heq]
    exact .whole (hpath.trans (clearCarry_change true _).path)
      (fun _ h => .inl (h.resolve_right fun ⟨h, _⟩ => hs h)) fun _ => hcarry _

theorem stallExpiry_run (s : State) : Run s s.stallExpiry := by
  unfold stallExpiry
  split
  · exact .refl
  · split
    · exact enterStopped_run s
    · exact .refl
  · exact .refl

end State
end Sys2Proof.Machine
end

section
/-! PROOF. The placement unit, the release unit, the marks and the overspeed check as runs of the changes. -/

namespace Sys2Proof.Machine

/-! ### What a plan marks (R88, R89, R90) -/

/-- The record to displace, of the best so far and one more (R89, R90). -/
def betterVictim (priority : Nat) (best : Option Record) (r : Record) : Option Record :=
  if displaceable priority r then
    match best with
    | some x => if displacedBefore r x then some r else some x
    | none => some r
  else best

theorem nextVictim_eq (priority : Nat) (rs : List Record) : nextVictim priority rs = rs.foldl (betterVictim priority) none := rfl

/-- One more record is the better one, or leaves the best as it is. -/
theorem betterVictim_cases (priority : Nat) (best : Option Record) (r : Record) :
    betterVictim priority best r = best ∨ (betterVictim priority best r = some r ∧ displaceable priority r = true) := by
  unfold betterVictim
  split
  · next hr =>
    split
    · split
      · exact .inr ⟨rfl, hr⟩
      · exact .inl rfl
    · exact .inr ⟨rfl, hr⟩
  · exact .inl rfl

theorem betterVictim_fold_mem {priority : Nat} (rs : List Record) (best : Option Record) {v : Record}
    (h : rs.foldl (betterVictim priority) best = some v) : best = some v ∨ (v ∈ rs ∧ displaceable priority v = true) := by
  induction rs generalizing best with
  | nil => exact .inl h
  | cons r rs ih =>
    obtain hbest | ⟨hmem, hdis⟩ := ih _ h
    · obtain hkeep | ⟨hnew, hr⟩ := betterVictim_cases priority best r
      · exact .inl (hkeep.symm.trans hbest)
      · cases hnew.symm.trans hbest
        exact .inr ⟨List.mem_cons_self, hr⟩
    · exact .inr ⟨List.mem_cons_of_mem _ hmem, hdis⟩

/-- The record that yields next is one of the list, PENDING and strictly below the priority. -/
theorem nextVictim_mem {priority : Nat} {rs : List Record} {v : Record} (h : nextVictim priority rs = some v) :
    v ∈ rs ∧ displaceable priority v = true :=
  (betterVictim_fold_mem rs none h).resolve_left (by simp)

/-- The budget marks are records of the list that may be displaced. -/
theorem budgetMarks_mem (n budget d priority : Nat) (rs : List Record) :
    ∀ v ∈ (budgetMarks n budget d priority rs).1, v ∈ rs ∧ displaceable priority v = true := by
  induction n generalizing rs with
  | zero => simp [budgetMarks]
  | succ n ih =>
    intro v hv
    unfold budgetMarks at hv
    split at hv
    · simp at hv
    · split at hv
      · simp at hv
      · next x hx =>
        obtain rfl | hv := List.mem_cons.mp hv
        · exact nextVictim_mem hx
        · obtain ⟨hmem, hdis⟩ := ih _ v hv
          exact ⟨(List.mem_filter.mp hmem).1, hdis⟩

namespace State

theorem mem_listWithout {s : State} {c : Cylinder} {x : Option Slot} {r : Record} (h : r ∈ s.listWithout c x) :
    r ∈ s.pool.lists.get c ∧ some r.slot ≠ x := by
  simpa [listWithout] using h

theorem mem_conflictSet {s : State} {q : PlanInput} {r : Record} (h : r ∈ s.conflictSet q) :
    r ∈ s.pool.records ∧ some r.slot ≠ q.exclude := by
  simp only [conflictSet, List.mem_append, List.mem_filter, List.mem_flatMap] at h
  obtain ⟨hmem, -⟩ | ⟨c, -, hmem, -⟩ := h
  · exact ⟨(Pool.mem_records _ _).mpr ⟨_, (mem_listWithout hmem).1⟩, (mem_listWithout hmem).2⟩
  · exact ⟨(Pool.mem_records _ _).mpr ⟨_, (mem_listWithout hmem).1⟩, (mem_listWithout hmem).2⟩

/-- What steps 5 to 7 find on the way to an accepted plan (R87 to R91). -/
structure PlanSteps (s : State) (q : PlanInput) (marks : List Mark) (d : Nat) (bc : Bool) (own capacity budget left : List Record) :
    Prop where
  conflict_yields : ∀ r ∈ s.conflictSet q, displaceable q.priority r = true
  own_eq : own = (s.listWithout q.cylinder q.exclude).filter fun r => !((s.conflictSet q).any fun x => x.slot == r.slot)
  capacity_cases : (own.length < s.engine.config.cap ∧ capacity = [])
    ∨ (s.engine.config.cap ≤ own.length ∧ ∃ v, nextVictim q.priority own = some v ∧ capacity = [v])
  budget_eq : budgetMarks (own.filter fun r => !(capacity.any fun x => x.slot == r.slot)).length s.limits.budget q.duration q.priority
    (own.filter fun r => !(capacity.any fun x => x.slot == r.slot)) = (budget, left)
  marks_eq : marks = (s.conflictSet q).map (fun r => { record := r, cause := .conflict : Mark })
    ++ capacity.map (fun r => { record := r, cause := .capacity : Mark })
    ++ budget.map (fun r => { record := r, cause := .budget : Mark })
  fits : (bc = false ∧ d = q.duration ∧ sumDurations left + q.duration ≤ s.limits.budget)
    ∨ (bc = true ∧ d = s.limits.budget - sumDurations left ∧ s.limits.budget < sumDurations left + q.duration
      ∧ q.owner = .fuel ∧ q.kind = .main ∧ sumDurations left + 20 ≤ s.limits.budget)

/-- The capacity step takes no victim below the cap, and one at it (R89). -/
theorem capacity_cases_of {priority cap : Nat} {own capacity : List Record}
    (h : (if own.length < cap then some [] else (nextVictim priority own).map fun v => [v]) = some capacity) :
    (own.length < cap ∧ capacity = []) ∨ (cap ≤ own.length ∧ ∃ v, nextVictim priority own = some v ∧ capacity = [v]) := by
  split at h
  · next hlt => exact .inl ⟨hlt, (Option.some.inj h).symm⟩
  · next hge =>
    obtain ⟨v, hv, hvc⟩ := Option.map_eq_some_iff.mp h
    exact .inr ⟨Nat.not_lt.mp hge, v, hv, hvc.symm⟩

/-- An accepted plan went through the steps. -/
theorem planFit_accepted {s : State} {q : PlanInput} {marks : List Mark} {d : Nat} {bc : Bool}
    (h : s.planFit q = .accepted marks d bc) :
    ∃ own capacity budget left, s.PlanSteps q marks d bc own capacity budget left := by
  unfold planFit at h
  dsimp only at h
  split at h
  · cases h
  · next hconflict =>
    have hdis : ∀ r ∈ s.conflictSet q, displaceable q.priority r = true := by simpa using hconflict
    split at h
    · cases h
    · next capacity hcapacity =>
      have hcases := capacity_cases_of hcapacity
      split at h
      · next hfits =>
        cases h
        exact ⟨_, capacity, _, _, hdis, rfl, hcases, rfl, rfl, .inl ⟨rfl, rfl, hfits⟩⟩
      · next hover =>
        split at h
        · next hfuel =>
          cases h
          exact ⟨_, capacity, _, _, hdis, rfl, hcases, rfl, rfl, .inr ⟨rfl, rfl, Nat.not_le.mp hover, hfuel⟩⟩
        · cases h

/-- Every marked record stands in the pool, is PENDING and strictly below the priority, and is not the one left out. -/
theorem planFit_marks {s : State} {q : PlanInput} {marks : List Mark} {d : Nat} {bc : Bool}
    (h : s.planFit q = .accepted marks d bc) :
    ∀ m ∈ marks, m.record ∈ s.pool.records ∧ displaceable q.priority m.record = true ∧ some m.record.slot ≠ q.exclude := by
  obtain ⟨own, capacity, budget, left, hsteps⟩ := planFit_accepted h
  have hown : ∀ r ∈ own, r ∈ s.pool.records ∧ some r.slot ≠ q.exclude := fun r hr => by
    rw [hsteps.own_eq] at hr
    obtain ⟨hmem, hne⟩ := mem_listWithout (List.mem_filter.mp hr).1
    exact ⟨(Pool.mem_records _ _).mpr ⟨_, hmem⟩, hne⟩
  intro m hm
  rw [hsteps.marks_eq] at hm
  simp only [List.mem_append, List.mem_map] at hm
  obtain (⟨r, hr, rfl⟩ | ⟨r, hr, rfl⟩) | ⟨r, hr, rfl⟩ := hm
  · exact ⟨(mem_conflictSet hr).1, hsteps.conflict_yields r hr, (mem_conflictSet hr).2⟩
  · obtain ⟨-, rfl⟩ | ⟨-, v, hv, rfl⟩ := hsteps.capacity_cases
    · simp at hr
    · obtain rfl := List.mem_singleton.mp hr
      obtain ⟨hmem, hdis⟩ := nextVictim_mem hv
      exact ⟨(hown _ hmem).1, hdis, (hown _ hmem).2⟩
  · have hr' : r ∈ (budgetMarks (own.filter fun r => !(capacity.any fun x => x.slot == r.slot)).length s.limits.budget
        q.duration q.priority (own.filter fun r => !(capacity.any fun x => x.slot == r.slot))).1 := by
      rw [hsteps.budget_eq]
      exact hr
    obtain ⟨hmem, hdis⟩ := budgetMarks_mem _ _ _ _ _ r hr'
    exact ⟨(hown r (List.mem_filter.mp hmem).1).1, hdis, (hown r (List.mem_filter.mp hmem).1).2⟩

/-- Where the duration of an accepted plan lies (R90, R91). -/
theorem planFit_duration {s : State} {q : PlanInput} {marks : List Mark} {d : Nat} {bc : Bool}
    (h : s.planFit q = .accepted marks d bc) : d ≤ q.duration ∧ (20 ≤ q.duration → 20 ≤ d) := by
  obtain ⟨own, capacity, budget, left, hsteps⟩ := planFit_accepted h
  obtain ⟨-, hd, -⟩ | ⟨-, hd, hover, -, -, hroom⟩ := hsteps.fits <;> omega

/-! ### Displacements (R92) -/

/-- A slot that holds no record, or one that is not FIRING. -/
def Idle (s : State) (k : Slot) : Prop :=
  (∀ r ∈ s.pool.records, r.slot ≠ k) ∨ ∃ r ∈ s.pool.records, r.slot = k ∧ r.isFiring = false

theorem Idle.not_firing {s : State} {k : Slot} (h : s.Idle k) (hp : s.pool.partitioned) (r : Record)
    (hr : s.pool.find k = some r) : r.isFiring = false := by
  obtain ⟨hmem, hslot⟩ := Pool.find_some hr
  obtain hnone | ⟨x, hx, hxslot, hxidle⟩ := h
  · exact absurd hslot (hnone r hmem)
  · have hfind := Pool.find_of_mem (Pool.partitioned_slots_nodup hp) hx
    rw [hxslot, hr] at hfind
    cases hfind
    exact hxidle

/-- Freeing a slot takes every record of it, and no other. -/
theorem freeSlot_records (s : State) (k : Slot) (r : Record) :
    r ∈ (s.freeSlot k).pool.records ↔ r ∈ s.pool.records ∧ r.slot ≠ k := by
  have hpool : (s.freeSlot k).pool = s.pool.freeRecord k := rfl
  rw [hpool]
  cases hf : s.pool.find k with
  | none =>
    rw [Pool.freeRecord, hf]
    exact ⟨fun h => ⟨h, Pool.find_none.mp hf r h⟩, fun h => h.1⟩
  | some x =>
    rw [Pool.freeRecord_of_find hf, Pool.push_records, Pool.records_unlink, List.mem_filter]
    simp

/-- An operation that frees a slot leaves the other slots as they were, and so leaves an idle slot idle. -/
theorem Idle.after_free {s u : State} {k j : Slot} (h : s.Idle j) (hu : u.pool = (s.freeSlot k).pool) : u.Idle j := by
  unfold Idle
  simp only [hu, freeSlot_records]
  obtain hnone | ⟨r, hr, hslot, hidle⟩ := h
  · exact .inl fun r hr => hnone r hr.1
  · by_cases hj : j = k
    · exact .inl fun x hx hxj => hx.2 (hxj.trans hj)
    · exact .inr ⟨r, ⟨hr, hslot ▸ hj⟩, hslot, hidle⟩

theorem freeSlots_path (w : Bool) (ks : List Slot) (s : State) (h : ∀ k ∈ ks, s.Idle k) : Path w s (s.freeSlots ks) := by
  induction ks generalizing s with
  | nil => exact .refl
  | cons k ks ih =>
    have hfree : Change w s (s.freeSlot k) := .free s k fun hp => (h k List.mem_cons_self).not_firing hp
    exact hfree.path.trans (ih _ fun j hj => (h j (List.mem_cons_of_mem k hj)).after_free rfl)

theorem displaceMarked_path (w : Bool) (marks : List Mark) (s : State) (h : ∀ m ∈ marks, s.Idle m.record.slot) :
    Path w s (s.displaceMarked marks) := by
  induction marks generalizing s with
  | nil => exact .refl
  | cons m marks ih =>
    have hfree : Change w s (s.freeSlot m.record.slot) := .free s _ fun hp => (h m List.mem_cons_self).not_firing hp
    refine (hfree.path.trans (reportDisplaced_path w _ m.record m.cause)).trans (ih _ fun x hx => ?_)
    exact (h x (List.mem_cons_of_mem m hx)).after_free (reportDisplaced_pool _ _ _)

/-- The slots that a plan marks are idle. -/
theorem planFit_idle {s : State} {q : PlanInput} {marks : List Mark} {d : Nat} {bc : Bool}
    (h : s.planFit q = .accepted marks d bc) : ∀ m ∈ marks, s.Idle m.record.slot := fun m hm => by
  obtain ⟨hmem, hdis, -⟩ := planFit_marks h m hm
  simp only [displaceable, Bool.and_eq_true] at hdis
  exact .inr ⟨m.record, hmem, rfl, not_isFiring_of_isPending hdis.1⟩

/-! ### The placement unit (chapter 5) -/

theorem popFlags_path (w : Bool) (s : State) (c : Prop) [Decidable c] :
    Path w s (if c then (s.raiseFlag .fuel .poolLow).raiseFlag .thermal .poolLow else s) := by
  split
  · exact (raiseFlag_change w s .fuel .poolLow rfl).path.trans (raiseFlag_change w _ .thermal .poolLow rfl).path
  · exact .refl

/-- A pop raises POOL_LOW on the state with the free list popped, when it crosses the reserve (R39, R40). -/
theorem popSlot_setPool (s : State) (p : Pool) :
    s.popSlot.setPool p = if s.limits.reserve < s.pool.free.length ∧ s.pool.free.length - 1 ≤ s.limits.reserve
      then ((s.setPool p).raiseFlag .fuel .poolLow).raiseFlag .thermal .poolLow else s.setPool p := by
  by_cases h : s.limits.reserve < s.pool.free.length ∧ s.pool.free.length - 1 ≤ s.limits.reserve
  · have hpop : s.popSlot = ((s.setPool s.pool.pop).raiseFlag .fuel .poolLow).raiseFlag .thermal .poolLow := if_pos h
    rw [if_pos h, hpop]
    rfl
  · have hpop : s.popSlot = s.setPool s.pool.pop := if_neg h
    rw [if_neg h, hpop]
    rfl

/-- Step 8 on a free list that is not empty: the slot at its head filled, and POOL_LOW when the pop crosses the reserve. -/
theorem applyPlan_of_free {s : State} {q : PlanInput} {marks : List Mark} {k : Slot} {rest : List Slot}
    (hfree : (s.displaceMarked marks).pool.free = k :: rest) (d : Nat) (tag : Byte) (carried : Bool) (repeats : Nat)
    (report : Bool) :
    s.applyPlan q marks d tag carried repeats report
      = (if (s.displaceMarked marks).limits.reserve < (s.displaceMarked marks).pool.free.length
            ∧ (s.displaceMarked marks).pool.free.length - 1 ≤ (s.displaceMarked marks).limits.reserve
          then ((s.filled q marks d tag carried repeats report k).raiseFlag .fuel .poolLow).raiseFlag .thermal .poolLow
          else s.filled q marks d tag carried repeats report k, some k) := by
  unfold applyPlan
  dsimp only
  split
  · next h => rw [hfree] at h; cases h
  · next j rest' h =>
    cases hfree.symm.trans h
    have hpool : (s.displaceMarked marks).popSlot.pool = (s.displaceMarked marks).pool.pop := by
      unfold popSlot
      dsimp only
      split <;> rfl
    rw [hpool, popSlot_setPool]
    rfl

/-- Step 8 of an accepted plan is a run. -/
theorem applyPlan_run {s : State} {q : PlanInput} {marks : List Mark} {d : Nat} {bc : Bool}
    (hplan : s.planFit q = .accepted marks d bc) (hsound : s.rangesSound → s.bounded → q.Sound s) (hexclude : q.exclude = none)
    (tag : Byte) (carried : Bool) {repeats : Nat} (hrepeats : repeats ≤ 255) (report : Bool) :
    Run s (s.applyPlan q marks d tag carried repeats report).1 := by
  cases hfree : (s.displaceMarked marks).pool.free with
  | nil =>
    unfold applyPlan
    dsimp only
    split
    · exact (displaceMarked_path false marks s (planFit_idle hplan)).run
    · next h => rw [hfree] at h; cases h
  | cons k rest =>
    rw [applyPlan_of_free hfree]
    exact (Act.place s q marks d bc tag carried repeats report k rest hplan hsound hexclude hrepeats hfree).run.trans
      (popFlags_path false _ _).run

theorem clampFlag_path (w : Bool) (s : State) (o : Owner) (c : Bool) :
    Path w s (if c then s.raiseFlag o.link .clamp else s) := by
  split
  · exact (raiseFlag_change w s o.link .clamp (by cases o <;> rfl)).path
  · exact .refl

theorem refuseTake_path (w : Bool) (s : State) (o : Owner) (command : StagedCommand) (slot : Option Byte) (tag : Byte)
    (reason : Reason) (flags : ClampFlags) (blocking : Option Slot) :
    Path w s (s.refuseTake o command slot tag reason flags blocking) :=
  (clampFlag_path w s o flags.any).trans (append_path w _ _ _)

theorem clampOffset_range {w : Window} (h : w.lo ≤ w.hi) (x : Int) :
    w.lo ≤ (clampOffset w x).1 ∧ (clampOffset w x).1 ≤ w.hi := by
  unfold clampOffset
  split_ifs <;> dsimp only <;> omega

theorem clampDuration_range {d n : Nat} {f : Bool} (h : clampDuration d = some (n, f)) : 20 ≤ n ∧ n ≤ 4000 := by
  unfold clampDuration Config.minDuration Config.maxDuration at h
  split_ifs at h <;> cases h <;> omega

theorem clampPriority_range {c : Nat} (h : 1 ≤ c ∧ c ≤ 15) (p : Nat) :
    1 ≤ (clampPriority c p).1 ∧ (clampPriority c p).1 ≤ 15 := by
  unfold clampPriority
  split_ifs <;> dsimp only <;> omega

/-- While the configuration is valid the kind windows are not empty (R170). -/
theorem window_le_of_valid {s : State} (h : s.engineSound = true) (hv : s.engine.valid = true) (k : Kind) :
    (s.engine.config.window k).lo ≤ (s.engine.config.window k).hi := by
  simp only [engineSound, hv, Bool.not_true, Bool.false_or, Bool.and_eq_true, decide_eq_true_eq] at h
  obtain ⟨⟨⟨⟨⟨hpre, hmain⟩, hafter⟩, hlate⟩, -⟩, -⟩ := h
  cases k
  exacts [hpre, hmain, hafter, hlate]

theorem valid_of_configured {s : State} {c : Cylinder} (h : c ∈ s.configured) : s.engine.valid = true := by
  unfold configured at h
  split at h
  · assumption
  · simp at h

theorem ceiling_range {s : State} (h : s.limitsBounded) (o : Owner) : 1 ≤ s.ceiling o ∧ s.ceiling o ≤ 15 := by
  obtain ⟨-, -, -, hf1, hf15, ht1, ht15, -⟩ := h
  cases o
  exacts [⟨hf1, hf15⟩, ⟨ht1, ht15⟩]

/-- With the engine sound, the configured cylinders are cylinders 1 to N (R27). -/
theorem mem_configured_iff {s : State} (h : s.rangesSound) (hv : s.engine.valid = true) (c : Cylinder) :
    c ∈ s.configured ↔ cylinderNumber c ≤ s.engine.config.cylinderCount := by
  obtain ⟨hconfig, hengine, -⟩ := h
  have hn := hconfig.1
  simp only [engineSound, hv, Bool.not_true, Bool.false_or, Bool.and_eq_true] at hengine
  obtain ⟨⟨-, hentries⟩, hgeometry⟩ := hengine
  cases hg : s.engine.geometry with
  | none => rw [hg] at hgeometry; cases hgeometry
  | some g =>
    rw [hg] at hgeometry
    simp only [Bool.and_eq_true, beq_iff_eq] at hgeometry
    obtain ⟨⟨⟨⟨horder, -⟩, -⟩, -⟩, -⟩ := hgeometry
    have hconf : s.configured = g.order := by simp [configured, hv, geometry, hg]
    have hinj : Function.Injective cylinderNumber := fun a b hab => Fin.ext (Nat.succ.inj hab)
    rw [hconf, ← List.mem_map_of_injective hinj, horder]
    have hcount (i : Nat) (hi : i < s.engine.config.cylinderCount) :
        i + 1 ∈ (s.engine.config.firingOrder.toList.take s.engine.config.cylinderCount).map fun e => e.val := by
      have hone := List.all_eq_true.mp hentries i (List.mem_range.mpr hi)
      exact List.one_le_count_iff.mp (by rw [beq_iff_eq.mp hone])
    constructor
    · intro hmem
      by_contra hgt
      have hsub : cylinderNumber c :: (List.range s.engine.config.cylinderCount).map (· + 1) ⊆
          (s.engine.config.firingOrder.toList.take s.engine.config.cylinderCount).map fun e => e.val := by
        intro x hx
        obtain rfl | hx := List.mem_cons.mp hx
        · exact hmem
        · obtain ⟨i, hi, rfl⟩ := List.mem_map.mp hx
          exact hcount i (List.mem_range.mp hi)
      have hnodup : (cylinderNumber c :: (List.range s.engine.config.cylinderCount).map (· + 1)).Nodup := by
        refine List.nodup_cons.mpr ⟨fun hx => ?_, (List.nodup_range).map fun a b h => Nat.succ.inj h⟩
        obtain ⟨i, hi, hic⟩ := List.mem_map.mp hx
        have := List.mem_range.mp hi
        omega
      have hle := (List.subperm_of_subset hnodup hsub).length_le
      simp only [List.length_cons, List.length_map, List.length_range, List.length_take, Vector.length_toList] at hle
      omega
    · intro hle
      have hpos : cylinderNumber c = (cylinderNumber c - 1) + 1 := by unfold cylinderNumber; omega
      rw [hpos]
      exact hcount _ (by unfold cylinderNumber at hle ⊢; omega)

/-- As many cylinders are configured as the configuration counts (R27). -/
theorem configured_length {s : State} (h : s.rangesSound) (hv : s.engine.valid = true) :
    s.configured.length = s.engine.config.cylinderCount := by
  obtain ⟨hconfig, hengine, -⟩ := h
  have hn := hconfig.1
  simp only [engineSound, hv, Bool.not_true, Bool.false_or, Bool.and_eq_true] at hengine
  obtain ⟨-, hgeometry⟩ := hengine
  cases hg : s.engine.geometry with
  | none => rw [hg] at hgeometry; cases hgeometry
  | some g =>
    rw [hg] at hgeometry
    simp only [Bool.and_eq_true, beq_iff_eq] at hgeometry
    obtain ⟨⟨⟨⟨horder, -⟩, -⟩, -⟩, -⟩ := hgeometry
    have hlen := congrArg List.length horder
    simp only [List.length_map, List.length_take, Vector.length_toList] at hlen
    simp only [configured, hv, if_true, geometry, hg, Option.getD_some]
    omega

/-- A ready request names a configured cylinder (R79). -/
theorem readiness_ok {s : State} {o : Owner} {r : PlaceRequest} {c : Cylinder} {k : Kind} (h : s.readiness o r = .ok (c, k)) :
    s.engine.valid = true ∧ cylinderOf r.cylinder.toNat = some c ∧ cylinderNumber c ≤ s.configured.length := by
  unfold readiness at h
  split at h
  · cases h
  · next hv =>
    split at h
    · cases h
    · next d hd =>
      split at h
      · cases h
      · next hlen =>
        split at h
        · cases h
        · split at h
          · cases h
            exact ⟨by simpa using hv, hd, Nat.not_lt.mp hlen⟩
          · cases h

theorem applyPlace_run (s : State) (o : Owner) (r : PlaceRequest) : Run s (s.applyPlace o r) := by
  unfold applyPlace
  split
  · exact (refuseTake_path false s o _ _ _ _ _ _).run
  · next c k hready =>
    obtain ⟨hvalid, -, hlen⟩ := readiness_ok hready
    dsimp only
    split
    · exact (refuseTake_path false s o _ _ _ _ _ _).run
    · next duration dc hduration =>
      split
      · exact (refuseTake_path false s o _ _ _ _ _ _).run
      · split
        · exact (refuseTake_path false s o _ _ _ _ _ _).run
        · split
          · exact (refuseTake_path false s o _ _ _ _ _ _).run
          · next marks placed bc hplan =>
            have hrun := applyPlan_run hplan (fun hr hb => ⟨clampPriority_range (ceiling_range hb.2.2.2.2.2 o) _,
              clampDuration_range hduration,
              (mem_configured_iff hr hvalid c).mpr (hlen.trans_eq (configured_length hr hvalid)),
              clampOffset_range (window_le_of_valid hr.2.1 hvalid k) _⟩) rfl r.tag false (repeats := r.repeats.toNat)
              (Nat.le_of_lt_succ r.repeats.isLt) r.report
            split
            · exact (hrun.trans (clampFlag_path false _ o _).run).trans (append_path false _ _ _).run
            · exact hrun.trans (clampFlag_path false _ o _).run

theorem matched_some {s : State} {o : Owner} {slot tag : Byte} {r : Record} (h : s.matched o slot tag = some r) :
    s.pool.find r.slot = some r ∧ r.slot.val = slot.toNat ∧ r.owner = o ∧ r.tag = tag := by
  unfold matched at h
  split at h
  · cases h
  · next k hk =>
    have hval : k.val = slot.toNat := by
      unfold slotOf at hk
      split at hk
      · cases hk
        rfl
      · cases hk
    split at h
    · next x hf =>
      split at h
      · next hown =>
        cases h
        have hslot := (Pool.find_some hf).2
        exact ⟨hslot.symm ▸ hf, hslot.symm ▸ hval, hown⟩
      · cases h
    · cases h

theorem applyAmend_run (s : State) (o : Owner) (a : AmendRequest) : Run s (s.applyAmend o a) := by
  unfold applyAmend
  dsimp only
  split
  · exact (refuseTake_path false s o _ _ _ _ _ _).run
  · split
    · exact (refuseTake_path false s o _ _ _ _ _ _).run
    · next r hmatched =>
      obtain ⟨hfind, -, -, -⟩ := matched_some hmatched
      split
      · exact (refuseTake_path false s o _ _ _ _ _ _).run
      · next hpending =>
        have hpending : r.isPending = true := by simpa using hpending
        split
        · exact (refuseTake_path false s o _ _ _ _ _ _).run
        · next duration dc hduration =>
          generalize hoff : (if a.offsetPresent = true then clampOffset (s.engine.config.window r.kind) a.offset.toInt
            else (r.offset, false)) = off
          obtain ⟨offset, oc⟩ := off
          dsimp only
          split
          · exact (refuseTake_path false s o _ _ _ _ _ _).run
          · next marks placed bc hplan =>
            refine Relation.ReflTransGen.trans (Relation.ReflTransGen.trans (Act.run (Act.amend s r _ marks placed bc hfind
              hpending hplan (fun hr _ => ?_) rfl rfl rfl rfl)) (clampFlag_path false _ o _).run) (append_path false _ _ _).run
            obtain ⟨⟨hp1, hp15, hd20, hd4000, -⟩, hconf, hlo, hhi, -⟩ := hr.2.2.1 r (Pool.find_some hfind).1
            refine ⟨⟨hp1, hp15⟩, ?_, hconf, ?_⟩
            · split at hduration
              · exact clampDuration_range hduration
              · cases hduration
                exact ⟨hd20, hd4000⟩
            · split at hoff
              · have hrange := clampOffset_range (window_le_of_valid hr.2.1 (valid_of_configured hconf) r.kind) a.offset.toInt
                rw [hoff] at hrange
                exact hrange
              · cases hoff
                exact ⟨hlo, hhi⟩

theorem applyWithdraw_run (s : State) (o : Owner) (x : WithdrawRequest) : Run s (s.applyWithdraw o x) := by
  unfold applyWithdraw
  split
  · exact (refuseTake_path false s o _ _ _ _ _ _).run
  · next r hmatched =>
    split
    · next hpending =>
      have hfree : Change false s (s.freeSlot r.slot) := .free s _ fun _ x hx => by
        cases (matched_some hmatched).1.symm.trans hx
        exact not_isFiring_of_isPending hpending
      exact hfree.run.trans (append_path false _ _ _).run
    · exact (refuseTake_path false s o _ _ _ _ _ _).run

theorem applyStaged_run (s : State) (o : Owner) (x : Staged) : Run s (s.applyStaged o x) := by
  cases x with
  | place r => exact applyPlace_run s o r
  | amend a => exact applyAmend_run s o a
  | withdraw x => exact applyWithdraw_run s o x

/-- A port with a queue no longer than before, and a watermark in its range. -/
theorem setPort_change (w : Bool) (s : State) (o : Owner) (p : RequestPort)
    (hqueue : (s.staging.get o).queue.length ≤ 16 → p.queue.length ≤ 16)
    (hmark : 1 ≤ (s.staging.get o).watermark ∧ (s.staging.get o).watermark ≤ 16 → 1 ≤ p.watermark ∧ p.watermark ≤ 16) :
    Change w s (s.setPort o p) := by
  refine .staging s _ fun hports hrun => ⟨fun o' => ?_, by rw [Staging.set_fuelRun]; exact hrun⟩
  have hget : (s.setStaging (s.staging.set o p)).staging.get o' = if o' = o then p else s.staging.get o' :=
    Staging.get_set _ _ _ _
  rw [portBounded, hget]
  split
  · exact ⟨hqueue (hports o).1, hmark (hports o).2⟩
  · exact hports o'

theorem setFuelRun_change (w : Bool) (s : State) (n : Nat) (h : s.staging.fuelRun ≤ 4 → n ≤ 4) :
    Change w s (s.setStaging { s.staging with fuelRun := n }) :=
  .staging s _ fun hports hrun => ⟨fun o => by cases o <;> [exact hports .fuel; exact hports .thermal], h hrun⟩

theorem arbiter_run_le {s : State} {o : Owner} {n : Nat} (h : s.arbiter = some (o, n)) : n ≤ 4 := by
  unfold arbiter Config.fuelRunLimit at h
  split_ifs at h <;> cases h <;> omega

theorem nextTake_some {s : State} {o : Owner} {n : Nat} {x : Staged} (h : s.nextTake = some (o, n, x)) :
    s.arbiter = some (o, n) ∧ (s.staging.get o).queue.head? = some x := by
  unfold nextTake at h
  split at h
  · next o' run harb =>
    obtain ⟨y, hy, hyx⟩ := Option.map_eq_some_iff.mp h
    cases hyx
    exact ⟨harb, hy⟩
  · cases h

theorem removeHead_path (w : Bool) (s : State) (o : Owner) (n : Nat) (hn : n ≤ 4) : Path w s (s.removeHead o n) := by
  have hpop : Change w s (s.setPort o { s.staging.get o with queue := (s.staging.get o).queue.tail }) :=
    setPort_change w s o _ (fun h => by simp only [List.length_tail]; omega) id
  exact hpop.path.trans (setFuelRun_change w _ n fun _ => hn).path

theorem take_run (s : State) : Run s s.take := by
  unfold take
  split
  · next o n x h =>
    exact (removeHead_path false s o n (arbiter_run_le (nextTake_some h).1)).run.trans (applyStaged_run _ o x)
  · exact .refl

theorem takeOf_run (s : State) (isKind : Staged → Bool) : Run s (s.takeOf isKind) := by
  unfold takeOf
  split
  · split
    · exact take_run s
    · exact .refl
  · exact .refl

end State
end Sys2Proof.Machine
end

section
/-! PROOF. The release unit, the angle marks, the overspeed check and the crank edge as runs of the changes. -/

namespace Sys2Proof.Machine
namespace State

/-! ### What the timeline's units leave -/

/-- What the blocks of an advance leave as it was: time base, clock, staging, configuration, waiting commands. -/
structure Steady (s u : State) : Prop where
  timeBase : u.timeBase = s.timeBase
  clock : u.clock = s.clock
  staging : u.staging = s.staging
  engine : u.engine = s.engine
  pending : u.pending = s.pending

theorem Steady.refl (s : State) : s.Steady s := ⟨rfl, rfl, rfl, rfl, rfl⟩

theorem Steady.trans {s u v : State} (h : s.Steady u) (h' : u.Steady v) : s.Steady v :=
  ⟨h'.timeBase.trans h.timeBase, h'.clock.trans h.clock, h'.staging.trans h.staging, h'.engine.trans h.engine,
    h'.pending.trans h.pending⟩

theorem Steady.foldl {α : Type} {f : State → α → State} (h : ∀ (s : State) a, s.Steady (f s a)) (l : List α) (s : State) :
    s.Steady (l.foldl f s) := by
  induction l generalizing s with
  | nil => exact .refl s
  | cons a l ih => exact (h s a).trans (ih _)

theorem Steady.configured {s u : State} (h : s.Steady u) : u.configured = s.configured := by
  simp [State.configured, geometry, h.engine]

theorem raiseFlag_steady (s : State) (l : Link) (f : Flag) : s.Steady (s.raiseFlag l f) := ⟨rfl, rfl, rfl, rfl, rfl⟩

theorem append_steady (s : State) (l : Link) (e : LogEntry) : s.Steady (s.append l e) := by
  constructor <;> simp

theorem handFault_steady (s : State) (b : Block) (k : FaultKind) (c : Option Cylinder) (x : Option Slot) :
    s.Steady (s.handFault b k c x) := ⟨rfl, rfl, rfl, rfl, rfl⟩

theorem setCylinder_steady (s : State) (c : Cylinder) (e : CylinderStatus) : s.Steady (s.setCylinder c e) :=
  ⟨rfl, rfl, rfl, rfl, rfl⟩

theorem endUnstarted_steady (s : State) (k : Slot) (o : Outcome) : s.Steady (s.endUnstarted k o) := by
  constructor <;> simp

theorem displaceOne_steady (s : State) (m : Mark) :
    s.Steady ((s.freeSlot m.record.slot).reportDisplaced m.record m.cause) := by
  constructor <;> simp

theorem displaceMarked_steady (s : State) (marks : List Mark) : s.Steady (s.displaceMarked marks) :=
  .foldl displaceOne_steady marks s

theorem displaceMarked_table (s : State) (marks : List Mark) : (s.displaceMarked marks).table = s.table :=
  foldl_keeps _ (·.table) (fun _ _ => by simp) marks s

theorem displaceMarked_limits (s : State) (marks : List Mark) : (s.displaceMarked marks).limits = s.limits :=
  foldl_keeps _ (·.limits) (fun _ _ => by simp) marks s

theorem displaceMarked_faults (s : State) (marks : List Mark) : (s.displaceMarked marks).faults = s.faults :=
  foldl_keeps _ (·.faults) (fun _ _ => by simp) marks s

/-- Step 8 leaves the blocks as they were, and the status table. -/
theorem applyPlan_steady (s : State) (q : PlanInput) (marks : List Mark) (d : Nat) (tag : Byte) (carried : Bool)
    (repeats : Nat) (report : Bool) : s.Steady (s.applyPlan q marks d tag carried repeats report).1
      ∧ (s.applyPlan q marks d tag carried repeats report).1.table = s.table := by
  have h := displaceMarked_steady s marks
  have ht := displaceMarked_table s marks
  cases hfree : (s.displaceMarked marks).pool.free with
  | nil =>
    have heq : (s.applyPlan q marks d tag carried repeats report).1 = s.displaceMarked marks := by
      unfold applyPlan
      dsimp only
      split
      · rfl
      · next hk => rw [hfree] at hk; cases hk
    rw [heq]
    exact ⟨h, ht⟩
  | cons k rest =>
    rw [applyPlan_of_free hfree]
    have hfilled : s.Steady (s.filled q marks d tag carried repeats report k) :=
      h.trans ⟨rfl, rfl, rfl, rfl, rfl⟩
    dsimp only
    split
    · exact ⟨(hfilled.trans (raiseFlag_steady _ _ _)).trans (raiseFlag_steady _ _ _), ht⟩
    · exact ⟨hfilled, ht⟩

/-! ### The release unit (sections 6.1 to 6.4) -/

theorem boundaryStep_path (w : Bool) (s : State) (c : Cylinder) (old new : Nat) : Path w s (s.boundaryStep c old new) := by
  unfold boundaryStep
  dsimp only
  split
  · exact (Change.boundary s c).path
  · exact .refl

theorem boundaryStep_steady (s : State) (c : Cylinder) (old new : Nat) : s.Steady (s.boundaryStep c old new) := by
  unfold boundaryStep
  dsimp only
  split
  · exact setCylinder_steady s c _
  · exact .refl s

/-- The carried MAIN of a configured cylinder's carry entry is a run, which leaves the status table (R95). -/
theorem placeCarried_run {s : State} {c : Cylinder} {entry : CarryEntry} (hc : c ∈ s.configured)
    (hentry : (s.table.get c).carry = some entry) : Run s (s.placeCarried c entry).1 ∧ s.Steady (s.placeCarried c entry).1
      ∧ (s.placeCarried c entry).1.table = s.table := by
  unfold placeCarried
  dsimp only
  split
  · exact ⟨.refl, .refl s, rfl⟩
  · split
    · exact ⟨.refl, .refl s, rfl⟩
    · next marks placed bc hplan =>
      have hrun := applyPlan_run hplan (fun hr hb => by
        obtain ⟨hlo, hhi, hwindow⟩ := hr.2.2.2.2 c (by fin_cases c <;> simp [allCylinders]) entry hentry
        exact ⟨ceiling_range hb.2.2.2.2.2 .fuel, ⟨hlo, hhi⟩, hc, hwindow (valid_of_configured hc)⟩) rfl 0 true
        (repeats := 1) (by omega) true
      obtain ⟨hsteady, htable⟩ := applyPlan_steady s _ marks placed 0 true 1 true
      dsimp only
      split
      · exact ⟨hrun.trans (raiseFlag_change false _ .fuel .clamp rfl).run, hsteady.trans (raiseFlag_steady _ _ _), htable⟩
      · exact ⟨hrun, hsteady, htable⟩

/-- The carry-over decision of a configured cylinder in SYNCED (R103). -/
theorem carryOver_run {s : State} {c : Cylinder} (hc : c ∈ s.configured) (hsync : s.clock.sync = .synced) :
    Run s (s.carryOver c) ∧ s.Steady (s.carryOver c) := by
  have hdry (u : State) (hrun : Run s u) (hsteady : s.Steady u) :
      Run s (u.handFault .release .dryCylinder (some c) none)
        ∧ s.Steady (u.handFault .release .dryCylinder (some c) none) :=
    ⟨hrun.trans (handFault_change false u .release .dryCylinder (some c) none).run,
      hsteady.trans (handFault_steady u .release .dryCylinder (some c) none)⟩
  unfold carryOver
  split
  · next entry hentry =>
    split
    · next hlimit =>
      obtain ⟨hrun, hsteady, htable⟩ := placeCarried_run hc hentry
      split
      · next u hu =>
        rw [hu] at hrun hsteady htable
        dsimp only at hrun hsteady htable
        have hcount : Change false u
            (u.setCylinder c { u.table.get c with carryCount := (u.table.get c).carryCount + 1 }) := by
          refine setCylinder_change false u c _ ⟨rfl, rfl, rfl, rfl, rfl, id, .inl rfl, .inr (.inr ⟨?_, ?_, rfl⟩)⟩
          · rw [hsteady.clock, hsync]
          · rw [htable, hsteady.engine]
            exact hlimit
        exact ⟨(hrun.trans hcount.run).trans (raiseFlag_change false _ .fuel .carry rfl).run,
          (hsteady.trans (setCylinder_steady _ _ _)).trans (raiseFlag_steady _ _ _)⟩
      · next u hu =>
        rw [hu] at hrun hsteady
        exact hdry u hrun hsteady
    · exact hdry s .refl (.refl s)
  · exact hdry s .refl (.refl s)

theorem carryStep_run {s : State} {c : Cylinder} (hc : c ∈ s.configured) (hsync : s.clock.sync = .synced) (old new : Nat) :
    Run s (s.carryStep c old new) ∧ s.Steady (s.carryStep c old new) := by
  unfold carryStep
  dsimp only
  split
  · exact carryOver_run hc hsync
  · exact ⟨.refl, .refl s⟩

theorem quarantine_path (w : Bool) {s : State} {r : Record} (hfind : s.pool.find r.slot = some r)
    (hpending : r.isPending = true) : Path w s (s.quarantine r) :=
  ((Change.quarantine s r.slot r hfind hpending).path.trans (reportDisplaced_path w _ r .integrity)).trans
    (handFault_change w _ .release .integrity (some r.cylinder) (some r.slot)).path

theorem releaseOne_path (w : Bool) {s : State} (hsync : s.clock.sync = .synced) (k : Slot) (new period : Nat) :
    Path w s (s.releaseOne k new period) := by
  unfold releaseOne
  split
  · exact .refl
  · next r hf =>
    have hslot := (Pool.find_some hf).2
    split
    · exact .refl
    · next hp =>
      have hpending : r.isPending = true := by simpa using hp
      have hidle (x : Record) (hx : s.pool.find k = some x) : x.isFiring = false := by
        cases hf.symm.trans hx
        exact not_isFiring_of_isPending hpending
      have hfind : s.pool.find r.slot = some r := hslot.symm ▸ hf
      split
      · exact quarantine_path w hfind hpending
      · split
        · exact endOpportunity_path w s k _ _ _ _ _ hidle
        · split
          · exact endOpportunity_path w s k _ _ _ _ _ hidle
          · next hsup =>
            split
            · exact endOpportunity_path w s k _ _ _ _ _ hidle
            · next d shortened hbudget =>
              exact (Change.release s r d shortened new period hfind hpending hsync (by simpa using hsup) hbudget).path

theorem releaseOne_steady (s : State) (k : Slot) (new period : Nat) : s.Steady (s.releaseOne k new period) := by
  unfold releaseOne
  split
  · exact .refl s
  · split
    · exact .refl s
    · split
      · constructor <;> simp [quarantine]
      · split
        · exact endUnstarted_steady s k _
        · split
          · exact endUnstarted_steady s k _
          · split
            · exact endUnstarted_steady s k _
            · exact ⟨rfl, rfl, rfl, rfl, rfl⟩

theorem recomputeOne_path (w : Bool) (s : State) (k : Slot) (old new period : Nat) :
    Path w s (s.recomputeOne k old new period) := by
  unfold recomputeOne
  split
  · exact .refl
  · next r hf =>
    split
    · exact .refl
    · next h =>
      have hreleased : r.isReleased = true := by
        simp only [Bool.or_eq_true, Bool.not_eq_true', not_or, Bool.not_eq_false] at h
        exact h.1
      split
      · exact (Change.replan s k r _ true hf hreleased).path
      · exact (Change.replan s k r _ false hf hreleased).path

theorem recomputeOne_steady (s : State) (k : Slot) (old new period : Nat) : s.Steady (s.recomputeOne k old new period) := by
  unfold recomputeOne
  split
  · exact .refl s
  · split
    · exact .refl s
    · split
      · exact ⟨rfl, rfl, rfl, rfl, rfl⟩
      · exact ⟨rfl, rfl, rfl, rfl, rfl⟩

/-- The four steps of the release event for a configured cylinder in SYNCED (R101). -/
theorem releaseCylinder_run {s : State} {c : Cylinder} (hc : c ∈ s.configured) (hsync : s.clock.sync = .synced)
    (old new period : Nat) :
    Run s (s.releaseCylinder c old new period) ∧ s.Steady (s.releaseCylinder c old new period) := by
  have hb := boundaryStep_steady s c old new
  obtain ⟨hcarry, hcs⟩ := carryStep_run (s := s.boundaryStep c old new) (c := c) (by rw [hb.configured]; exact hc)
    (by rw [hb.clock]; exact hsync) old new
  have hsteady := hb.trans hcs
  have hrelease := Run.foldl_of (P := fun u : State => s.Steady u)
    (f := fun u k => u.releaseOne k new period)
    (((s.boundaryStep c old new).carryStep c old new).releaseSlots c old new) (fun u k _ hu =>
      ⟨(releaseOne_path false (by rw [hu.clock]; exact hsync) k new period).run,
        hu.trans (releaseOne_steady u k new period)⟩) hsteady
  exact ⟨(((boundaryStep_path false s c old new).run.trans hcarry).trans hrelease.1).trans
      (Run.foldl (fun u k => (recomputeOne_path false u k old new period).run) _ _),
    hrelease.2.trans (.foldl (fun u k => recomputeOne_steady u k old new period) _ _)⟩

theorem releaseEvent_run {s : State} (hsync : s.clock.sync = .synced) (old new period : Nat) :
    Run s (s.releaseEvent old new period) ∧ s.Steady (s.releaseEvent old new period) :=
  Run.foldl_of (P := fun u : State => s.Steady u) s.configured (fun u c hc hu => by
    obtain ⟨hrun, hsteady⟩ := releaseCylinder_run (s := u) (c := c) (by rw [hu.configured]; exact hc)
      (by rw [hu.clock]; exact hsync) old new period
    exact ⟨hrun, hu.trans hsteady⟩) (.refl s)

/-! ### The angle marks (R22) -/

theorem markHit_path (w : Bool) (s : State) (i : MarkIndex) (owner : Link) (c : Cylinder) (adv : Advance) :
    Path w s (s.markHit i owner c adv) :=
  (append_path w s owner _).trans (raiseFlag_change w _ owner .mark (by cases owner <;> rfl)).path

theorem markHit_steady (s : State) (i : MarkIndex) (owner : Link) (c : Cylinder) (adv : Advance) :
    s.Steady (s.markHit i owner c adv) := (append_steady s owner _).trans (raiseFlag_steady _ _ _)

theorem markOne_path (w : Bool) (s : State) (i : MarkIndex) (old new : Nat) (adv : Advance) :
    Path w s (s.markOne i old new adv) := by
  unfold markOne
  split
  · exact .refl
  · next u _ =>
    have hhits : Path w s ((s.markHits u old new).foldl (fun s c => s.markHit i u.owner c adv) s) :=
      Path.foldl (fun s c => markHit_path w s i u.owner c adv) _ s
    dsimp only
    split
    · exact hhits.trans (Change.marks _ _).path
    · exact hhits

theorem markOne_steady (s : State) (i : MarkIndex) (old new : Nat) (adv : Advance) : s.Steady (s.markOne i old new adv) := by
  unfold markOne
  split
  · exact .refl s
  · next u _ =>
    have hhits : s.Steady ((s.markHits u old new).foldl (fun s c => s.markHit i u.owner c adv) s) :=
      .foldl (fun s c => markHit_steady s i u.owner c adv) _ s
    dsimp only
    split
    · exact hhits.trans ⟨rfl, rfl, rfl, rfl, rfl⟩
    · exact hhits

theorem marksTake_path (w : Bool) (s : State) (old new : Nat) (adv : Advance) : Path w s (s.marksTake old new adv) :=
  Path.foldl (fun s i => markOne_path w s i old new adv) _ s

theorem marksTake_steady (s : State) (old new : Nat) (adv : Advance) : s.Steady (s.marksTake old new adv) :=
  .foldl (fun s i => markOne_steady s i old new adv) _ s

/-! ### The overspeed check (R128) -/

/-- OVERSPEED found: the flag set, the fault handed over, the sweep unless the fault is masked (R128, R130). -/
def overspeedFound (s : State) : State :=
  ((s.setLimits { s.limits with overspeedActive := true }).handFault .limits .overspeed none none).reactUnmasked .overspeed none

/-- An unmasked reaction of OVERSPEED is the sweep (R130). -/
theorem reactUnmasked_overspeed (s : State) :
    s.reactUnmasked .overspeed none = if s.masked .overspeed then s else s.overspeedSweep := rfl

theorem overspeedFound_act (s : State) : Act s s.overspeedFound := by
  have hpath : Path true s ((s.setLimits { s.limits with overspeedActive := true }).handFault .limits .overspeed none none) :=
    (Change.limits s { s.limits with overspeedActive := true } id (.inl rfl)).path.trans
      (handFault_change true _ .limits .overspeed none none).path
  have hsame : s.overspeedFound.table = s.table ∧ s.overspeedFound.engine = s.engine ∧ s.overspeedFound.clock = s.clock := by
    simp [overspeedFound]
  refine .whole (hpath.trans (reactUnmasked_path true _ .overspeed none)) (fun hs hallowed => ?_)
    (carrySound_congr hsame.1 hsame.2.1 fun h => by rwa [hsame.2.2] at h)
  unfold overspeedFound
  rw [reactUnmasked_overspeed]
  split
  · next hmasked =>
    refine hallowed.imp id fun ⟨hsync, _⟩ => ⟨hsync, ?_⟩
    simp only [overspeedSuppression, hmasked, Bool.not_true, Bool.and_false]
  · exact .inl (overspeedSweep_noneReleased (hpath.timelineSound hs))

theorem overspeedCheck_run (s : State) (adv : Advance) : Run s (s.overspeedCheck adv) := by
  unfold overspeedCheck
  split
  · split
    · exact (overspeedFound_act s).run
    · split
      · exact Change.run (.limits s _ id (.inr (by simp [overspeedSuppression])))
      · exact .refl
  · exact .refl

theorem overspeedCheck_steady (s : State) (adv : Advance) : s.Steady (s.overspeedCheck adv) := by
  unfold overspeedCheck
  split
  · split
    · constructor <;> simp
    · split
      · exact ⟨rfl, rfl, rfl, rfl, rfl⟩
      · exact .refl s
  · exact .refl s

/-! ### One advance (R15) -/

theorem startPulse_steady (s : State) (b : Bank) (r : Record) (f : FiringFields) (o : StartOutcome) :
    s.Steady (s.startPulse b r f o) := ⟨rfl, rfl, rfl, rfl, rfl⟩

theorem decideHead_steady (s : State) (b : Bank) (r : Record) (f : FiringFields) (e : WaitEntry) (planned : Time) :
    s.Steady (s.decideHead b r f e planned) := by
  unfold decideHead
  dsimp only
  split_ifs
  · exact endUnstarted_steady s _ _
  · exact (endUnstarted_steady s _ _).trans (handFault_steady _ _ _ _ _)
  · exact (startPulse_steady s b r f .late).trans (handFault_steady _ _ _ _ _)
  · exact startPulse_steady s b r f _
  · exact startPulse_steady s b r f _

theorem decideUpTo_steady (n : Nat) (b : Bank) (s : State) : s.Steady (decideUpTo n b s) := by
  induction n generalizing s with
  | zero => exact .refl s
  | succ n ih =>
    unfold decideUpTo
    split
    · exact (decideHead_steady s b _ _ _ _).trans (ih _)
    · exact .refl s

theorem takeDecisions_steady (s : State) (b : Bank) : s.Steady (s.takeDecisions b) := decideUpTo_steady _ b s

theorem takeFault_steady (s : State) (r : FaultRecord) : s.Steady (s.takeFault r) := by
  constructor <;> simp

theorem takeRaisedOf_steady (s : State) (x : Block) : s.Steady (s.takeRaisedOf x) := by
  unfold takeRaisedOf
  split
  · exact .refl s
  · next y _ =>
    have hset : s.Steady (s.setFaults { s.faults with raised := s.faults.raised.eraseP fun y => y.block == x }) :=
      ⟨rfl, rfl, rfl, rfl, rfl⟩
    exact hset.trans (takeFault_steady _ y.record)

/-- One block's part of an advance; the advance has angles in SYNCED alone (R15). -/
theorem blockStep_run {s : State} {adv : Advance} (h : adv.angles ≠ none → s.clock.sync = .synced) (x : Block) :
    Run s (s.blockStep adv x) ∧ s.Steady (s.blockStep adv x) := by
  unfold blockStep
  split
  · exact ⟨overspeedCheck_run s adv, overspeedCheck_steady s adv⟩
  · next hangles => exact releaseEvent_run (h (by rw [hangles]; simp)) _ _ _
  · exact ⟨(marksTake_path false s _ _ adv).run, marksTake_steady s _ _ adv⟩
  · exact ⟨(takeDecisions_path false s _).run, takeDecisions_steady s _⟩
  · exact ⟨.refl, .refl s⟩
  · exact ⟨.refl, .refl s⟩

theorem edgeTurn_run {adv : Advance} {w : State × List Block} (h : adv.angles ≠ none → w.1.clock.sync = .synced)
    (turn : EdgeTurn) : Run w.1 (edgeTurn adv w turn).1 ∧ w.1.Steady (edgeTurn adv w turn).1 := by
  unfold edgeTurn
  split
  · split
    · exact blockStep_run h _
    · exact ⟨.refl, .refl w.1⟩
  · next x => exact ⟨(takeRaisedOf_path false w.1 x).run, takeRaisedOf_steady w.1 x⟩

theorem edgeTurns_run {adv : Advance} (turns : List EdgeTurn) {w : State × List Block}
    (h : adv.angles ≠ none → w.1.clock.sync = .synced) :
    Run w.1 (turns.foldl (edgeTurn adv) w).1 ∧ w.1.Steady (turns.foldl (edgeTurn adv) w).1 := by
  induction turns generalizing w with
  | nil => exact ⟨.refl, .refl w.1⟩
  | cons turn turns ih =>
    obtain ⟨hrun, hsteady⟩ := edgeTurn_run h turn
    obtain ⟨hruns, hsteadies⟩ := ih (w := edgeTurn adv w turn) fun ha => by rw [hsteady.clock]; exact h ha
    exact ⟨hrun.trans hruns, hsteady.trans hsteadies⟩

theorem takeAdvance_run {s : State} {adv : Advance} (turns : List EdgeTurn)
    (h : adv.angles ≠ none → s.clock.sync = .synced) : Run s (s.takeAdvance turns adv) :=
  (edgeTurns_run (w := (s, advanceBlocks)) _ h).1.trans (takeRaised_path false _).run

theorem classify_gapLike {period : Option Nat} {interval : Nat} (h : classify period interval = .gapLike) :
    period.isSome = true := by
  cases period <;> simp_all [classify]

/-- An edge that the noise filter lets through comes after a time that is not 0 (R1). -/
theorem interval_pos {s : State} (hs : s.clockSound) {interval : Nat} (h : ¬ discarded s.clock.period interval = true) :
    0 < interval := by
  have hp := ((clockSound_iff s).mp hs).1
  unfold discarded at h
  cases hperiod : s.clock.period with
  | none =>
    rw [hperiod] at h
    exact Nat.pos_of_ne_zero (by simpa using h)
  | some p =>
    rw [hperiod] at h
    have := hp p hperiod
    simp only [decide_eq_true_eq, Nat.not_lt] at h
    omega

/-- The crank edge is a run (R1 to R6, R15). -/
theorem crankEdge_run (s : State) (o : List EdgeTurn) : Run s (s.crankEdge o) := by
  unfold crankEdge
  split
  · exact .refl
  · split
    · next hstopped => exact (firstTooth_run s hstopped).trans (takeAdvance_run o (by simp [advanceOf]))
    · next hstarted =>
      dsimp only
      split
      · exact .refl
      · next hkept =>
        have haccept := acceptTooth_change s (classify s.clock.period (passedBy s.timeBase s.clock.lastTooth))
          (passedBy s.timeBase s.clock.lastTooth) hstarted fun hs => interval_pos hs hkept
        obtain ⟨hrun, hsync⟩ := takeTooth_run (s.acceptTooth (classify s.clock.period (passedBy s.timeBase s.clock.lastTooth))
          (passedBy s.timeBase s.clock.lastTooth)) (classify s.clock.period (passedBy s.timeBase s.clock.lastTooth))
          fun hgap => by
            simp only [acceptTooth, setClock_clock, hgap, reduceCtorEq, if_false]
            exact classify_gapLike hgap
        exact (haccept.run.trans hrun).trans (takeAdvance_run o hsync)

end State
end Sys2Proof.Machine
end

section
/-! PROOF. Every command as a run of the changes from the state it arrives in, and every step as such runs with time passing between them. -/

namespace Sys2Proof.Machine

/-! ### What a written configuration keeps (R165) -/

theorem inRange_bounds {lo hi n m : Nat} (h : inRange lo hi n = some m) : lo ≤ m ∧ m ≤ hi := by
  unfold inRange at h
  split at h
  · next hn =>
    cases h
    exact hn
  · cases h

theorem windowOf_inSteps {value : Data} {w : Window} (h : windowOf value = some w) : w.inSteps := by
  unfold windowOf at h
  dsimp only at h
  split at h
  · next hw =>
    cases h
    exact hw
  · cases h

/-- A write keeps every configuration item in its range (R165, R167). -/
theorem EngineConfig.inRange_of_write {c c' : EngineConfig} {item : Nat} {value : Data} (h : c.write item value = some c')
    (hc : c.inRange) : c'.inRange := by
  unfold write at h
  split at h
  case h_1 =>
    obtain ⟨hcount, h⟩ := Option.ite_none_right_eq_some.mp h
    obtain rfl := Option.some.inj h
    exact ⟨by simpa using hcount, hc.2⟩
  case h_2 =>
    obtain ⟨o, -, rfl⟩ := Option.map_eq_some_iff.mp h
    exact hc
  case h_3 =>
    obtain rfl := Option.some.inj h
    exact hc
  case h_5 =>
    obtain ⟨lo, hlo, h⟩ := Option.bind_eq_some_iff.mp h
    obtain ⟨hi, hhi, rfl⟩ := Option.map_eq_some_iff.mp h
    have := inRange_bounds hlo
    have := inRange_bounds hhi
    dsimp only [EngineConfig.inRange] at hc ⊢
    omega
  case h_13 | h_14 | h_15 | h_16 =>
    obtain ⟨w, hw, rfl⟩ := Option.map_eq_some_iff.mp h
    have := windowOf_inSteps hw
    dsimp only [EngineConfig.inRange, Window.inSteps] at this hc ⊢
    omega
  case h_19 => cases h
  all_goals
    obtain ⟨n, hn, rfl⟩ := Option.map_eq_some_iff.mp h
    have := inRange_bounds hn
    dsimp only [EngineConfig.inRange] at hc ⊢
    omega

namespace State

/-! ### Reads and flags (sections 8.4, 8.5, 9.6) -/

theorem readStatus_state (s : State) (l : Link) (part : Byte) : (s.readStatus l part).1 = s := by
  unfold readStatus
  split <;> rfl

theorem readRecord_state (s : State) (slot part : Byte) : (s.readRecord slot part).1 = s := by
  unfold readRecord
  split
  · split
    · rfl
    · split <;> rfl
  · rfl

theorem readCylinder_state (s : State) (cylinder part : Byte) : (s.readCylinder cylinder part).1 = s := by
  unfold readCylinder
  split
  · rfl
  · split <;> rfl

theorem configRead_state (s : State) (item : Byte) : (s.configRead item).1 = s := by
  unfold configRead
  split <;> rfl

theorem popLog_run (s : State) (l : Link) : Run s (s.popLog l).1 := by
  unfold popLog
  split
  · exact .refl
  · next e rest h =>
    refine Change.run (setLink_change false s l _ (.inr ?_) id id (.inl rfl))
    dsimp only
    rw [h]
    exact Nat.le_succ _

theorem ackEvents_run (s : State) (l : Link) (written : Word16) : Run s (s.ackEvents l written).1 := by
  refine Change.run (setLink_change false s l _ (.inr le_rfl) (fun h => ?_) id (.inl rfl))
  dsimp only
  rw [BitVec.and_assoc, BitVec.and_comm (~~~_), ← BitVec.and_assoc, h]
  exact BitVec.zero_and

theorem setNoticeEnables_run (s : State) (l : Link) (written : Word16) : Run s (s.setNoticeEnables l written).1 := by
  refine Change.run (setLink_change false s l _ (.inr le_rfl) id (fun _ => ?_) (.inl rfl))
  dsimp only
  rw [BitVec.and_assoc, BitVec.and_not_self]
  exact BitVec.and_zero

/-! ### Resets (R75, R139) -/

theorem clearPort_path (w : Bool) (s : State) (o : Owner) : Path w s (s.clearPort o) :=
  (setPort_change w s o { s.staging.get o with state := .quiet, queue := [] } (fun _ => Nat.zero_le _) id).path.trans
    (setFuelRun_change w _ 0 fun _ => Nat.zero_le _).path

/-- The slots of records that are not FIRING are idle. -/
theorem slotsWhere_idle {s : State} {t : Record → Bool} (h : ∀ r, t r = true → r.isFiring = false) :
    ∀ k ∈ s.slotsWhere t, s.Idle k := fun k hk => by
  obtain ⟨r, hr, rfl⟩ := List.mem_map.mp hk
  obtain ⟨hmem, ht⟩ := List.mem_filter.mp hr
  exact .inr ⟨r, hmem, rfl, h r ht⟩

theorem markFinal_change (w : Bool) (s : State) : Change w s (s.mapRecords Record.markFinal) := .final s fun _ => true

theorem resetRecords_path (w : Bool) (s : State) (o : Owner) : Path w s (s.resetRecords o) := by
  have hfinal (u : State) : Change w u (u.mapRecords fun r => if r.owner = o then r.markFinal else r) := by
    simpa only [decide_eq_true_eq] using Change.final (wild := w) u fun r => decide (r.owner = o)
  refine (freeSlots_path w _ s (slotsWhere_idle fun r hr => ?_)).trans (hfinal _).path
  simp only [Bool.and_eq_true] at hr
  exact not_isFiring_of_isPending hr.2

theorem resetRequestLink_path (w : Bool) (s : State) (o : Owner) : Path w s (s.resetRequestLink o) := by
  have hrecords := (((clearPort_path w s o).trans (clearLink_change w _ o.link).path).trans (Change.marks _ _).path).trans
    (resetRecords_path w (((s.clearPort o).clearLink o.link).freeMarks o.link) o)
  unfold resetRequestLink
  dsimp only
  split
  · exact hrecords.trans (clearCarry_change w _).path
  · exact hrecords

theorem softResetAll_path (w : Bool) (s : State) : Path w s s.softResetAll :=
  ((((((((clearPort_path w s .fuel).trans (clearPort_path w _ .thermal)).trans (clearLink_change w _ .fuel).path).trans
    (clearLink_change w _ .thermal).path).trans (clearLink_change w _ .supervisor).path).trans
    (Change.marks _ (Eight.all none)).path).trans
    (freeSlots_path w _ _ (slotsWhere_idle fun r hr => by simpa using hr))).trans (markFinal_change w _).path).trans
    (clearCarry_change w _).path

theorem portReset_run (s : State) (l : Link) : Run s (s.portReset l).1 := by
  unfold portReset
  split
  · exact (resetRequestLink_path false s _).run
  · exact (clearLink_change false s l).run

theorem resetPort_run (s : State) (target : Byte) : Run s (s.resetPort target).1 := by
  unfold resetPort
  split
  · exact .refl
  · exact (resetRequestLink_path false s _).run

/-! ### Marks and staging (R20, R21, R63, R65, R71) -/

theorem setMark_run (s : State) (l : Link) (mask : Byte) (offset : Word16) (mode : Byte) :
    Run s (s.setMark l mask offset mode).1 := by
  unfold setMark
  split
  · exact .refl
  · split
    · exact .refl
    · split
      · exact .refl
      · exact (Change.marks s _).run

theorem clearMark_run (s : State) (l : Link) (unit : Byte) : Run s (s.clearMark l unit).1 := by
  unfold clearMark
  split
  · exact .refl
  · split
    · exact .refl
    · split
      · exact (Change.marks s _).run
      · exact .refl

theorem onRequestLink_run (s : State) (l : Link) {act : Owner → Answer} (h : ∀ o, Run s (act o).1) :
    Run s (s.onRequestLink l act).1 := by
  unfold onRequestLink
  split
  · exact h _
  · exact .refl

theorem setPortState_run (s : State) (o : Owner) (state watermark : Byte) : Run s (s.setPortState o state watermark).1 := by
  unfold setPortState
  split
  · exact .refl
  · split
    · exact .refl
    · next hmark =>
      refine Change.run (setPort_change false s o _ id fun h => ?_)
      dsimp only
      split
      · exact h
      · next hzero =>
        have hne : watermark.toNat ≠ 0 := fun hz => hzero (BitVec.eq_of_toNat_eq hz)
        unfold Config.stagingDepth at hmark
        omega

theorem clearStaging_run (s : State) (o : Owner) : Run s (s.clearStaging o).1 :=
  Change.run (setPort_change false s o { s.staging.get o with queue := [] } (fun _ => Nat.zero_le _) id)

theorem intake_run (s : State) (o : Owner) (x : Staged) : Run s (s.intake o x).1 := by
  unfold intake
  split
  · exact .refl
  · split
    · next hroom =>
      refine Change.run (setPort_change false s o _ (fun _ => ?_) id)
      simp only [List.length_append, List.length_singleton]
      exact hroom
    · exact .refl

/-! ### Supervision (chapters 7 and 8) -/

/-- A limit written in its range keeps every limit in its range (R125, R126). -/
theorem write_limitsBounded {s : State} (h : s.limitsBounded) (i : LimitItem) (v : Nat) :
    (s.setLimits (s.limits.write i (i.clamp v))).limitsBounded := by
  cases i <;> simp only [limitsBounded, setLimits_limits, Limits.write, LimitItem.clamp, LimitItem.range] at h ⊢ <;> omega

theorem setLimit_run (s : State) (item : Byte) (value : Word16) : Run s (s.setLimit item value).1 := by
  unfold setLimit
  split
  · exact .refl
  · next i _ =>
    refine Change.run (.limits s _ (fun h => write_limitsBounded h i value.toNat) (.inr fun h => ?_))
    cases i <;> exact h

theorem setEnableMask_run (s : State) (mask : Byte) : Run s (s.setEnableMask mask).1 := by
  have henables : Change false s (s.setLimits { s.limits with enables := mask }) := .limits s _ id (.inr id)
  refine henables.run.trans (Change.run (.table _ _ fun c => ?_))
  rw [Eight.get_map]
  split
  · exact ⟨rfl, rfl, rfl, rfl, rfl, fun _ => Nat.zero_le _, .inl rfl, .inl rfl⟩
  · exact ⟨rfl, rfl, rfl, rfl, rfl, id, .inl rfl, .inl rfl⟩

theorem cutPulse_path (w : Bool) (s : State) (mask : Byte) (b : Bank) : Path w s (s.cutPulse mask b).1 := by
  unfold cutPulse
  split
  · split
    · exact endPulse_path w s b .cut
    · exact .refl
  · exact .refl

theorem cutBank_path (w : Bool) (s : State) (mask : Byte) (b : Bank) : Path w s (s.cutBank mask b).1 :=
  (cutPulse_path w s mask b).trans (Path.foldl (fun s k => suppressReleased_path w s k .cut) _ _)

theorem cutNow_run (s : State) (mask : Byte) : Run s (s.cutNow mask).1 := by
  have henables : Change false s (s.setLimits { s.limits with enables := s.limits.enables &&& ~~~mask }) :=
    .limits s _ id (.inr id)
  exact (henables.run.trans (cutBank_path false _ mask .bankA).run).trans (cutBank_path false _ mask .bankB).run

theorem withdrawAny_run (s : State) (slot : Byte) : Run s (s.withdrawAny slot).1 := by
  unfold withdrawAny
  split
  · exact .refl
  · next k _ =>
    split
    · exact .refl
    · next r hf =>
      split
      · exact .refl
      · next hidle =>
        have hfree : Change false s (s.freeSlot k) := .free s k fun _ x hx => by
          cases hf.symm.trans hx
          simpa using hidle
        exact hfree.run.trans (reportDisplaced_path false _ r .supervisor).run

/-- The fault mask written, with the sweep of an unmasked OVERSPEED when it is due (R130, R142). -/
def remasked (s : State) (mask : BitVec 11) : State :=
  (s.setFaults { s.faults with mask := mask }).unmaskOverspeed (s.masked .overspeed)

theorem remasked_act (s : State) (mask : BitVec 11) : Act s (s.remasked mask) := by
  have hmask : Path true s (s.setFaults { s.faults with mask := mask }) :=
    (Change.faults s { s.faults with mask := mask } (fun _ h => .inr h) (.inl rfl)).path
  have hsweep : Path true s (s.remasked mask) := by
    unfold remasked unmaskOverspeed
    split
    · exact hmask.trans (overspeedSweep_path true _)
    · exact hmask
  refine .whole hsweep (fun hs hallowed => ?_) fun hc => ?_
  · unfold remasked unmaskOverspeed
    split
    · exact .inl (overspeedSweep_noneReleased (hmask.timelineSound hs))
    · next hquiet =>
      refine hallowed.imp id fun ⟨hsync, hsup⟩ => ⟨hsync, ?_⟩
      unfold overspeedSuppression at hsup ⊢
      cases hactive : s.limits.overspeedActive <;> cases hbefore : s.masked .overspeed <;>
        simp_all [setFaults_limits]
  · refine carrySound_congr ?_ ?_ ?_ hc
    all_goals
      unfold remasked unmaskOverspeed
      split <;> simp

theorem unmaskInjectorWatch_path (w : Bool) (s : State) (before : Bool) : Path w s (s.unmaskInjectorWatch before) := by
  unfold unmaskInjectorWatch
  split
  · exact Path.foldl (fun s c => (disableCylinder_change w s c).path) _ s
  · exact .refl

theorem setFaultMask_run (s : State) (written : Word16) : Run s (s.setFaultMask written).1 :=
  (remasked_act s (written.setWidth 11)).run.trans (unmaskInjectorWatch_path false _ _).run

theorem ackFaults_run (s : State) (kinds : Word16) : Run s (s.ackFaults kinds).1 :=
  Change.run (.faults s _ (fun _ h => .inr h) (.inr id))

theorem clearCapture_run (s : State) : Run s s.clearCapture.1 :=
  Change.run (.faults s _ (fun _ h => by cases h) (.inr id))

/-! ### The configuration (chapter 10) -/

theorem configRefusal_none {s : State} (h : s.configRefusal = none) : s.clock.sync = .stopped ∧ s.pool.records = [] := by
  unfold configRefusal at h
  split_ifs at h with hsync hrecords
  exact ⟨not_not.mp hsync, not_not.mp hrecords⟩

theorem configWrite_run (s : State) (item : Byte) (value : Data) : Run s (s.configWrite item value).1 := by
  unfold configWrite
  split
  · exact .refl
  · next hallowed =>
    obtain ⟨hstopped, hempty⟩ := configRefusal_none hallowed
    split
    · exact .refl
    · next c hwrite => exact (Act.config s c hstopped hempty (EngineConfig.inRange_of_write hwrite)).run

theorem commitConfig_run (s : State) : Run s s.commitConfig.1 := by
  unfold commitConfig
  split
  · exact .refl
  · next hallowed =>
    obtain ⟨hstopped, hempty⟩ := configRefusal_none hallowed
    dsimp only
    split
    · exact .refl
    · next hconsistent => exact (Act.commit s hstopped hempty hconsistent).run

/-! ### Frames and commands (sections 9.3, 9.5) -/

theorem listen_change (w : Bool) (s : State) (l : Link) : Change w s (s.setLink l { s.links.get l with ignoring := false }) :=
  setLink_change w s l _ (.inr le_rfl) id id (.inl rfl)

theorem onFrame_run (s : State) (t : Time) (l : Link) (n : CommandName) {act : State → State × Status × Data}
    (h : ∀ u, Run u (act u).1) : Run (s.arrive t) (s.onFrame t l n act) := by
  unfold onFrame
  dsimp only
  split
  · exact (listen_change false _ l).run
  · split
    · exact (h _).trans (respond_change false _ l _ _ _).run
    · exact (respond_change false _ l _ _ _).run

end State

open State

/-- A command that a frame carries is a run from the state it arrives in. -/
theorem runCarried_run {c : Instr} {t : Time} (hcarried : (writePayload c).isSome = true) (htaken : c.takenAt = some t)
    (s : State) : ∃ u, runCarried c s = .next u ∧ Run (s.arrive t) u := by
  cases c
  case nop => cases htaken; exact ⟨_, rfl, onFrame_run s t _ _ fun _ => .refl⟩
  case readStatus => cases htaken; exact ⟨_, rfl, onFrame_run s t _ _ fun u => by rw [readStatus_state]⟩
  case readTime => cases htaken; exact ⟨_, rfl, onFrame_run s t _ _ fun _ => .refl⟩
  case readAngle => cases htaken; exact ⟨_, rfl, onFrame_run s t _ _ fun _ => .refl⟩
  case readRecord => cases htaken; exact ⟨_, rfl, onFrame_run s t _ _ fun u => by rw [readRecord_state]⟩
  case readCylinder => cases htaken; exact ⟨_, rfl, onFrame_run s t _ _ fun u => by rw [readCylinder_state]⟩
  case popLog => cases htaken; exact ⟨_, rfl, onFrame_run s t _ _ fun u => popLog_run u _⟩
  case ackEvents => cases htaken; exact ⟨_, rfl, onFrame_run s t _ _ fun u => ackEvents_run u _ _⟩
  case setNoticeEnables => cases htaken; exact ⟨_, rfl, onFrame_run s t _ _ fun u => setNoticeEnables_run u _ _⟩
  case portReset => cases htaken; exact ⟨_, rfl, onFrame_run s t _ _ fun u => portReset_run u _⟩
  case setMark => cases htaken; exact ⟨_, rfl, onFrame_run s t _ _ fun u => setMark_run u _ _ _ _⟩
  case clearMark => cases htaken; exact ⟨_, rfl, onFrame_run s t _ _ fun u => clearMark_run u _ _⟩
  case setPortState =>
    cases htaken
    exact ⟨_, rfl, onFrame_run s t _ _ fun u => onRequestLink_run u _ fun o => setPortState_run u o _ _⟩
  case clearStaging =>
    cases htaken
    exact ⟨_, rfl, onFrame_run s t _ _ fun u => onRequestLink_run u _ fun o => clearStaging_run u o⟩
  case place =>
    cases htaken
    exact ⟨_, rfl, onFrame_run s t _ _ fun u => onRequestLink_run u _ fun o => intake_run u o _⟩
  case amend =>
    cases htaken
    exact ⟨_, rfl, onFrame_run s t _ _ fun u => onRequestLink_run u _ fun o => intake_run u o _⟩
  case withdraw =>
    cases htaken
    exact ⟨_, rfl, onFrame_run s t _ _ fun u => onRequestLink_run u _ fun o => intake_run u o _⟩
  case setLimit => cases htaken; exact ⟨_, rfl, onFrame_run s t _ _ fun u => setLimit_run u _ _⟩
  case setEnableMask => cases htaken; exact ⟨_, rfl, onFrame_run s t _ _ fun u => setEnableMask_run u _⟩
  case cutNow => cases htaken; exact ⟨_, rfl, onFrame_run s t _ _ fun u => cutNow_run u _⟩
  case withdrawAny => cases htaken; exact ⟨_, rfl, onFrame_run s t _ _ fun u => withdrawAny_run u _⟩
  case setFaultMask => cases htaken; exact ⟨_, rfl, onFrame_run s t _ _ fun u => setFaultMask_run u _⟩
  case readFaults => cases htaken; exact ⟨_, rfl, onFrame_run s t _ _ fun _ => .refl⟩
  case ackFaults => cases htaken; exact ⟨_, rfl, onFrame_run s t _ _ fun u => ackFaults_run u _⟩
  case readCapture => cases htaken; exact ⟨_, rfl, onFrame_run s t _ _ fun _ => .refl⟩
  case clearCapture => cases htaken; exact ⟨_, rfl, onFrame_run s t _ _ fun u => clearCapture_run u⟩
  case scrubPool => cases htaken; exact ⟨_, rfl, onFrame_run s t _ _ fun u => (Change.scrub u).run⟩
  case softReset => cases htaken; exact ⟨_, rfl, onFrame_run s t _ _ fun u => (softResetAll_path false u).run⟩
  case resetPort => cases htaken; exact ⟨_, rfl, onFrame_run s t _ _ fun u => resetPort_run u _⟩
  case configWrite => cases htaken; exact ⟨_, rfl, onFrame_run s t _ _ fun u => configWrite_run u _ _⟩
  case configRead => cases htaken; exact ⟨_, rfl, onFrame_run s t _ _ fun u => by rw [configRead_state]⟩
  case commitConfig => cases htaken; exact ⟨_, rfl, onFrame_run s t _ _ fun u => commitConfig_run u⟩
  all_goals cases hcarried

/-- A command that a frame carries does what its frame does. -/
theorem exec_eq_runCarried {c : Instr} (hcarried : (writePayload c).isSome = true) (s : State) : exec c s = runCarried c s := by
  cases c
  case powerOnReset | crankEdge | camEdge | stallExpiry | peakEdge | stageFaultAssertion | stageFaultNegation | startDecision
    | endOfPulse | peakDeadline | recoveryEnd | refusedFrame | takePlace | takeAmend | takeWithdraw => cases hcarried
  all_goals rfl

/-- A command read from a frame is one that a frame carries, taken at the time of the frame. -/
theorem readPayload_carried (t : Time) (l : Link) (p : Payload) (n : CommandName) :
    (writePayload (readPayload t l p n)).isSome = true ∧ (readPayload t l p n).takenAt = some t := by
  cases n <;> exact ⟨rfl, rfl⟩

/-- A frame without a refusal is read as a command that a frame carries. -/
theorem readFrame_carried {t : Time} {l : Link} {f : Frame} (h : frameRefusal f = none) :
    (writePayload (readFrame t l f)).isSome = true ∧ (readFrame t l f).takenAt = some t := by
  unfold frameRefusal at h
  unfold readFrame
  cases hj : judgeFrame f with
  | names n => exact readPayload_carried t l f.payload n
  | badLength | badCheck | badCommand => rw [hj] at h; cases h

/-- The state in which a command is taken: the part as its own clock has brought it there, or, at a power-on reset, as it is. -/
def arrival (c : Instr) (s : State) : State :=
  match c.takenAt with
  | some t => s.arrive t
  | none => s

theorem arrival_of_some {c : Instr} {t : Time} (h : c.takenAt = some t) (s : State) : arrival c s = s.arrive t := by
  simp [arrival, h]

theorem powerOnReset_run (s : State) (lines : ResetLines) : ∃ u, execPowerOnReset lines s = .next u ∧ Run s u := by
  have hstage (u : State) (b : Bank) (level : Bool) : Run u (if level then u.assertStage b else u) := by
    split
    · exact (assertStage_path false u b).run
    · exact .refl
  exact ⟨_, rfl, ((Act.reset s lines).run.trans (hstage _ .bankA lines.stageFaultA)).trans
    (hstage _ .bankB lines.stageFaultB)⟩

theorem refusedFrame_run (t : Time) (l : Link) (f : Frame) (s : State) :
    ∃ u, execRefusedFrame t l f s = .next u ∧ Run (s.arrive t) u := by
  cases h : frameRefusal f with
  | none =>
    obtain ⟨hcarried, htaken⟩ := readFrame_carried (t := t) (l := l) h
    rw [execRefusedFrame_passed t l f s h]
    exact runCarried_run hcarried htaken s
  | some x =>
    unfold execRefusedFrame
    rw [h]
    dsimp only
    split
    · exact ⟨_, rfl, (listen_change false _ l).run⟩
    · exact ⟨_, rfl, (respond_change false _ l _ _ _).run⟩

/-- Every command is a run from the state in which it is taken. -/
theorem exec_run (c : Instr) (s : State) : ∃ u, exec c s = .next u ∧ Run (arrival c s) u := by
  by_cases hcarried : (writePayload c).isSome = true
  · obtain ⟨t, htaken⟩ : ∃ t, c.takenAt = some t := by
      cases c
      case powerOnReset => cases hcarried
      all_goals exact ⟨_, rfl⟩
    rw [exec_eq_runCarried hcarried, arrival_of_some htaken]
    exact runCarried_run hcarried htaken s
  · cases c
    case powerOnReset lines => exact powerOnReset_run s lines
    case crankEdge t order => exact ⟨_, rfl, crankEdge_run _ order⟩
    case camEdge => exact ⟨_, rfl, camEdge_run _⟩
    case stallExpiry => exact ⟨_, rfl, stallExpiry_run _⟩
    case peakEdge t b => exact ⟨_, rfl, (peakEdge_path false _ b).run⟩
    case stageFaultAssertion t b => exact ⟨_, rfl, (assertStage_path false _ b).run⟩
    case stageFaultNegation t b => exact ⟨_, rfl, (Change.stageLine _ b false).run⟩
    case startDecision t b => exact ⟨_, rfl, (decideNow_path false _ b).run⟩
    case endOfPulse t b => exact ⟨_, rfl, (pulseExpiry_path false _ b).run⟩
    case peakDeadline t b => exact ⟨_, rfl, (peakExpiry_path false _ b).run⟩
    case recoveryEnd t b => exact ⟨_, rfl, (recoveryExpiry_path false _ b).run⟩
    case refusedFrame t l f => exact refusedFrame_run t l f s
    case takePlace => exact ⟨_, rfl, takeOf_run _ _⟩
    case takeAmend => exact ⟨_, rfl, takeOf_run _ _⟩
    case takeWithdraw => exact ⟨_, rfl, takeOf_run _ _⟩
    all_goals exact absurd rfl hcarried

/-! ### Steps (logs 2, 3) -/

theorem State.runTimer_run (s : State) (k : Timer) : Run s (s.runTimer k) := by
  cases k with
  | peakDeadline b => exact (peakExpiry_path false s b).run
  | pulseEnd b => exact (pulseExpiry_path false s b).run
  | recoveryEnd b => exact (recoveryExpiry_path false s b).run
  | start b => exact (decideNow_path false s b).run
  | stall => exact stallExpiry_run s

/-- A property kept by every change and by time passing holds in every state a run reaches. -/
theorem Run.keeps {P : State → Prop} (hact : ∀ s u, Act s u → P s → P u) {s u : State} (h : Run s u) (hs : P s) : P u := by
  induction h with
  | refl => exact hs
  | tail _ hstep ih => exact hact _ _ hstep ih

section keeps
variable {P : State → Prop} (hact : ∀ s u, Act s u → P s → P u) (htime : ∀ s t, P s → P (s.setTimeBase t))
include hact htime

theorem State.arriveWithin_keeps (n : Nat) (t : Time) {s : State} (hs : P s) : P (arriveWithin n t s) := by
  induction n generalizing s with
  | zero => exact htime s t hs
  | succ n ih =>
    unfold arriveWithin
    split
    · split
      · exact ih ((runTimer_run _ _).keeps hact (htime s _ hs))
      · exact htime s t hs
    · exact htime s t hs

theorem State.arrive_keeps (t : Time) {s : State} (hs : P s) : P (s.arrive t) := arriveWithin_keeps hact htime _ t hs

theorem State.idle_keeps {s : State} (hs : P s) : P s.idle := by
  unfold idle
  split
  · exact (runTimer_run s _).keeps hact hs
  · split
    · exact (take_run s).keeps hact hs
    · exact htime s _ hs

theorem exec_keeps {c : Instr} {s u : State} (h : exec c s = .next u) (hs : P s) : P u := by
  obtain ⟨v, hv, hrun⟩ := exec_run c s
  cases hv.symm.trans h
  refine hrun.keeps hact ?_
  cases htaken : c.takenAt with
  | none => simpa [arrival, htaken] using hs
  | some t =>
    rw [arrival_of_some htaken]
    exact State.arrive_keeps hact htime t hs

/-- A property kept by every change, by time passing and by a command leaving the queue is kept by every step. -/
theorem step_keeps (hpending : ∀ s q, P s → P (s.setPending q)) {s u : State} (h : step s = .next u) (hs : P s) : P u := by
  unfold step at h
  split at h
  · exact exec_keeps hact htime h (hpending s _ hs)
  · cases h
    exact State.idle_keeps hact htime hs

end keeps

end Sys2Proof.Machine
end

section
/-! PROOF. What every step keeps: the partition of the slots (O6) and the agreement of
the timeline (O7). -/

namespace Sys2Proof.Machine

/-! ### A record placed or amended -/

theorem Record.not_pending {r : Record} (h : r.isPending = true) : r.phase = .pending := by
  unfold isPending at h
  split at h
  · assumption
  · cases h

namespace State

/-- A PENDING record put into a slot that held none, or a PENDING one, leaves every agreement. -/
theorem Agrees.repending {s : State} (h : s.Agrees) {k : Slot} {p : Pool} {x : Option Record}
    (hfind : ∀ j, p.find j = if j = k then x else s.pool.find j) (hx : ∀ r ∈ x, r.phase = .pending)
    (hk : ∀ r, s.pool.find k = some r → r.isPending = true) : (s.setPool p).Agrees := by
  obtain ⟨hrel, hfire⟩ := Pool.at_of_find_pending hfind hx
  have hreleased : s.pool.releasedAt k = none := Pool.releasedAt_eq_none fun r hr => by
    simp [Record.isReleased, Record.not_pending (hk r hr)]
  have hfiring : s.pool.firingAt k = none := Pool.firingAt_eq_none fun r hr => not_isFiring_of_isPending (hk r hr)
  refine h.congr (fun j => ?_) (fun j => ?_) rfl rfl rfl rfl
  · rw [setPool_pool, hrel, ← hreleased, Function.update_eq_self]
  · rw [setPool_pool, hfire, ← hfiring, Function.update_eq_self]

/-- The displacements leave the records of the slots that are not marked. -/
theorem displaceMarked_find (s : State) (marks : List Mark) (k : Slot) :
    (s.displaceMarked marks).pool.find k = if ∃ m ∈ marks, m.record.slot = k then none else s.pool.find k := by
  induction marks generalizing s with
  | nil => simp [displaceMarked]
  | cons m marks ih =>
    have hstep : (s.displaceMarked (m :: marks)) =
        ((s.freeSlot m.record.slot).reportDisplaced m.record m.cause).displaceMarked marks := rfl
    have hone : ((s.freeSlot m.record.slot).reportDisplaced m.record m.cause).pool.find k
        = if k = m.record.slot then none else s.pool.find k := by
      rw [reportDisplaced_pool]
      exact Pool.find_freeRecord s.pool m.record.slot k
    rw [hstep, ih, hone]
    by_cases hk : k = m.record.slot
    · simp [hk]
    · simp [hk, Ne.symm hk]

/-- An amendment finds its record where it was: no plan marks the record it leaves out (R97). -/
theorem displaceMarked_find_excluded {s : State} {q : PlanInput} {marks : List Mark} {d : Nat} {bc : Bool} {k : Slot}
    (hplan : s.planFit q = .accepted marks d bc) (hk : q.exclude = some k) :
    (s.displaceMarked marks).pool.find k = s.pool.find k := by
  rw [displaceMarked_find, if_neg]
  rintro ⟨m, hm, hslot⟩
  exact (planFit_marks hplan m hm).2.2 (by rw [hslot, hk])

/-- The record with another duration, its check bit written anew (R98). -/
def withDuration (d : Nat) (r : Record) : Record := { r with duration := d }.rechecked

/-- The record as amended (R98). -/
def amended (s : State) (r : Record) (offset : Int) (d : Nat) : Record :=
  Record.rechecked
    (if offset = r.offset then { r with duration := d }
      else { r with offset := offset, start := startAngle (s.table.get r.cylinder).tdc offset, duration := d })

theorem amended_slot (s : State) (r : Record) (offset : Int) (d : Nat) : (s.amended r offset d).slot = r.slot := by
  unfold amended
  split <;> rfl

theorem amended_phase (s : State) (r : Record) (offset : Int) (d : Nat) : (s.amended r offset d).phase = r.phase := by
  unfold amended
  split <;> rfl

/-- The pool of an accepted amendment: the record changed in its place, or moved (R45, R98). -/
theorem replaceAmended_cases (s : State) (r : Record) (offset : Int) (d : Nat) :
    (offset = r.offset ∧ s.replaceAmended r offset d
        = s.setPool (s.pool.update r.slot (withDuration d)))
      ∨ (offset ≠ r.offset ∧ s.replaceAmended r offset d = s.setPool (s.pool.moveInList (s.amended r offset d))) := by
  unfold replaceAmended amended
  by_cases h : offset = r.offset
  · exact .inl ⟨h, if_pos h⟩
  · exact .inr ⟨h, by rw [if_neg h, if_neg h]⟩

/-- After an amendment its slot holds the record as amended, and every other slot what it held. -/
theorem replaceAmended_find {s : State} (hp : s.pool.partitioned) {r : Record} (hr : s.pool.find r.slot = some r)
    (offset : Int) (d : Nat) (j : Slot) :
    (s.replaceAmended r offset d).pool.find j = if j = r.slot then some (s.amended r offset d) else s.pool.find j := by
  have hslots := Pool.partitioned_slots_nodup hp
  obtain ⟨hoff, heq⟩ | ⟨hoff, heq⟩ := replaceAmended_cases s r offset d <;> rw [heq]
  · rw [setPool_pool, Pool.find_update s.pool r.slot j (f := withDuration d) fun _ => rfl]
    split
    · next hj => rw [hr, amended, if_pos hoff]; rfl
    · rfl
  · have hmoved := Pool.find_moveInList hslots (r := s.amended r offset d) (x := r) (by rw [amended_slot]; exact hr) j
    rwa [amended_slot] at hmoved

theorem replaceAmended_partitioned {s : State} (hp : s.pool.partitioned) (r : Record) (offset : Int) (d : Nat) :
    (s.replaceAmended r offset d).pool.partitioned := by
  obtain ⟨-, heq⟩ | ⟨-, heq⟩ := replaceAmended_cases s r offset d <;> rw [heq]
  · exact Pool.partitioned_update r.slot (fun _ => rfl) hp
  · exact Pool.partitioned_moveInList _ hp

theorem replaceAmended_agrees {s : State} (hs : s.timelineSound) {r : Record} (hr : s.pool.find r.slot = some r)
    (hpending : r.isPending = true) (offset : Int) (d : Nat) : (s.replaceAmended r offset d).Agrees := by
  obtain ⟨hp, ha⟩ := (timelineSound_iff s).mp hs
  have hpool : s.replaceAmended r offset d = s.setPool (s.replaceAmended r offset d).pool := by
    obtain ⟨-, heq⟩ | ⟨-, heq⟩ := replaceAmended_cases s r offset d <;> rw [heq] <;> rfl
  rw [hpool]
  refine ha.repending (k := r.slot) (replaceAmended_find hp hr offset d) (fun x hx => ?_) fun x hx => ?_
  · obtain rfl := Option.some.inj hx
    rw [amended_phase, Record.not_pending hpending]
  · cases hr.symm.trans hx
    exact hpending

/-- The slot filled by an accepted plan takes the new record, and every other holds what it held. -/
theorem filled_find {s : State} {marks : List Mark} {k : Slot} {rest : List Slot}
    (hp : (s.displaceMarked marks).pool.partitioned) (hfree : (s.displaceMarked marks).pool.free = k :: rest) (q : PlanInput)
    (d : Nat) (tag : Byte) (carried : Bool) (repeats : Nat) (report : Bool) (j : Slot) :
    (s.filled q marks d tag carried repeats report k).pool.find j
      = if j = k then some ((s.displaceMarked marks).filledRecord k q d tag carried repeats report)
        else (s.displaceMarked marks).pool.find j := by
  refine Pool.find_insert (p := (s.displaceMarked marks).pool.pop)
    (r := (s.displaceMarked marks).filledRecord k q d tag carried repeats report) (show (s.displaceMarked marks).pool.slots.Nodup from Pool.partitioned_slots_nodup hp) ?_ j
  exact Pool.find_of_free hp (by rw [hfree]; exact List.mem_cons_self)

end State

open State

/-! ### The partition and the agreement of the timeline (R38, R110, R113) -/

theorem Act.partitioned {s u : State} (h : Act s u) (hp : s.pool.partitioned) : u.pool.partitioned := by
  cases h with
  | calm h => exact h.partitioned hp
  | whole h => exact h.partitioned hp
  | place q marks d bc tag carried repeats report k rest hplan hsound hexclude hrepeats hfree =>
    exact Pool.partitioned_fill (r := (s.displaceMarked marks).filledRecord k q d tag carried repeats report) hfree
      ((displaceMarked_path true marks s (planFit_idle hplan)).partitioned hp)
  | amend r q marks d bc hfind hpending hplan =>
    exact replaceAmended_partitioned ((displaceMarked_path true marks s (planFit_idle hplan)).partitioned hp) r q.offset d
  | reset lines =>
    show Pool.partitioned resetPool
    decide
  | config => exact hp
  | commit => exact hp

/-- With no record at all the agreement does not depend on which bank a cylinder is of. -/
theorem State.Agrees.rebank {s u : State} (h : s.Agrees) (hpool : u.pool = s.pool) (hdrivers : u.drivers = s.drivers)
    (hempty : s.pool.records = []) : u.Agrees := by
  have hnone (k : Slot) : s.pool.find k = none := Pool.find_none.mpr (by simp [hempty])
  have hreleased : u.pool.releasedAt = fun _ => none := by
    funext k
    exact Pool.releasedAt_eq_none (by simp [hpool, hnone])
  have hfiring : u.pool.firingAt = fun _ => none := by
    funext k
    exact Pool.firingAt_eq_none (by simp [hpool, hnone])
  have hold : Agreement (fun _ => none) (fun _ => none) s.bankOf s.waitsOn s.runsOn s.fireLine := by
    have := h
    unfold Agrees at this
    rwa [← hpool, hreleased, hfiring] at this
  have hwaits : u.waitsOn = s.waitsOn := by funext b; simp [waitsOn, hdrivers]
  have hruns : u.runsOn = s.runsOn := by funext b; simp [runsOn, runningPulse, hdrivers]
  have hlines : u.fireLine = s.fireLine := by funext c; simp [fireLine, hdrivers]
  unfold Agrees
  rw [hreleased, hfiring, hwaits, hruns, hlines]
  exact { hold with
    waits := fun b k => (hold.waits b k).trans (by simp)
    runs := fun b k => (hold.runs b k).trans (by simp) }

theorem Act.timelineSound {s u : State} (h : Act s u) (hs : s.timelineSound) : u.timelineSound := by
  have hagrees := ((timelineSound_iff s).mp hs).2
  have hpart := h.partitioned hs.1
  rw [timelineSound_iff]
  refine ⟨hpart, ?_⟩
  cases h with
  | calm h => exact ((timelineSound_iff u).mp (h.timelineSound hs)).2
  | whole h => exact ((timelineSound_iff u).mp (h.timelineSound hs)).2
  | place q marks d bc tag carried repeats report k rest hplan hsound hexclude hrepeats hfree =>
    have hdisplaced := (displaceMarked_path true marks s (planFit_idle hplan)).timelineSound hs
    refine ((timelineSound_iff _).mp hdisplaced).2.repending (k := k)
      (filled_find hdisplaced.1 hfree q d tag carried repeats report) (fun r hr => ?_) fun r hr => ?_
    · obtain rfl := Option.some.inj hr
      rfl
    · rw [Pool.find_of_free hdisplaced.1 (by rw [hfree]; exact List.mem_cons_self)] at hr
      cases hr
  | amend r q marks d bc hfind hpending hplan hsound hexclude =>
    have hdisplaced := (displaceMarked_path true marks s (planFit_idle hplan)).timelineSound hs
    exact replaceAmended_agrees hdisplaced (by rw [displaceMarked_find_excluded hplan hexclude]; exact hfind) hpending
      q.offset d
  | reset lines =>
    have hreset : (s.poweredOn lines).timelineSound := by
      show State.reset.timelineSound
      decide
    exact ((timelineSound_iff _).mp hreset).2
  | config c hstopped hempty => exact hagrees.rebank rfl rfl hempty
  | commit hstopped hempty => exact hagrees.rebank rfl rfl hempty

/-- Settles O6: every change a step is made of keeps the partition. -/
theorem poolPartitionKept : Obligations.PoolPartitionKept := fun _ _ hs h =>
  step_keeps (P := fun s => s.pool.partitioned) (fun _ _ hact => hact.partitioned) (fun _ _ h => h) (fun _ _ h => h) h hs

/-- Settles O7: every change a step is made of keeps the agreement of what stands at each slot with lists, pulses and lines. -/
theorem timelineSoundKept : Obligations.TimelineSoundKept := fun _ _ hs h =>
  step_keeps (P := fun s => s.timelineSound) (fun _ _ hact => hact.timelineSound) (fun _ _ h => h) (fun _ _ h => h) h hs

end Sys2Proof.Machine
end

section
/-! PROOF. What every step keeps of the registers: releases only when allowed (O8), the items of the clock (O9), the frame checks of the
responses (O12), the queue of waiting commands (O3). -/

namespace Sys2Proof.Machine

open State

/-! ### What an elementary change leaves -/

namespace State

section closeBank
variable (s : State) (b : Bank) (p : RunningPulse) (r : Record) (why : PulseEnd)

@[simp] theorem closeBank_timeBase : (s.closeBank b p r why).timeBase = s.timeBase := by
  simp [closeBank, negateFire, setBankState]
@[simp] theorem closeBank_clock : (s.closeBank b p r why).clock = s.clock := by
  simp [closeBank, negateFire, setBankState]
@[simp] theorem closeBank_staging : (s.closeBank b p r why).staging = s.staging := by
  simp [closeBank, negateFire, setBankState]
@[simp] theorem closeBank_limits : (s.closeBank b p r why).limits = s.limits := by
  simp [closeBank, negateFire, setBankState]
@[simp] theorem closeBank_faults : (s.closeBank b p r why).faults = s.faults := by
  simp [closeBank, negateFire, setBankState]
@[simp] theorem closeBank_links : (s.closeBank b p r why).links = s.links := by
  simp [closeBank, negateFire, setBankState]
@[simp] theorem closeBank_engine : (s.closeBank b p r why).engine = s.engine := by
  simp [closeBank, negateFire, setBankState]
@[simp] theorem closeBank_pending : (s.closeBank b p r why).pending = s.pending := by
  simp [closeBank, negateFire, setBankState]

end closeBank

end State

section change
variable {w : Bool} {s u : State}

theorem Change.engine (h : Change w s u) : u.engine = s.engine := by
  cases h with
  | pulseEnd => exact closeBank_engine _ _ _ _ _
  | _ => rfl

theorem Change.pending (h : Change w s u) : u.pending = s.pending := by
  cases h with
  | pulseEnd => exact closeBank_pending _ _ _ _ _
  | _ => rfl

/-- A change of the clock keeps its items those of its sync state; every other leaves the clock. -/
theorem Change.clockSound (h : Change w s u) (hs : s.clockSound = true) : u.clockSound = true := by
  cases h with
  | clock x hsound => exact hsound hs
  | pulseEnd b p r why =>
    unfold State.clockSound
    rw [closeBank_clock]
    exact hs
  | _ => exact hs

/-- A change of a link keeps its response's frame check; every other leaves the links. -/
theorem Change.responseSound (h : Change w s u) (hs : ∀ l, s.responseSound l) : ∀ l, u.responseSound l := by
  cases h with
  | link l p hbounded hresponse =>
    intro m
    by_cases hm : m = l
    · subst hm
      exact hresponse (hs m)
    · have hget : (s.setLink l p).links.get m = s.links.get m := by simp [setLink_links, hm]
      rw [State.responseSound, hget]
      exact hs m
  | pulseEnd b p r why =>
    intro m
    rw [State.responseSound, closeBank_links]
    exact hs m
  | _ => exact hs

theorem Path.engine (h : Path w s u) : u.engine = s.engine :=
  h.keeps (P := fun v => v.engine = s.engine) (fun _ _ hc hv => hc.engine.trans hv) rfl

theorem Path.pending (h : Path w s u) : u.pending = s.pending :=
  h.keeps (P := fun v => v.pending = s.pending) (fun _ _ hc hv => hc.pending.trans hv) rfl

theorem Path.clockSound (h : Path w s u) : s.clockSound = true → u.clockSound = true :=
  h.keeps fun _ _ hc => hc.clockSound

theorem Path.responseSound (h : Path w s u) : (∀ l, s.responseSound l) → ∀ l, u.responseSound l :=
  h.keeps (P := fun v => ∀ l, v.responseSound l) fun _ _ hc => hc.responseSound

/-! ### Releases only when allowed (R112, R129) -/

theorem State.noneReleased_update {k : Slot} {f : Record → Record} (hf : ∀ r, (f r).isReleased = false)
    (hs : s.noneReleased) : (s.updateRecord k f).noneReleased := by
  intro r hr
  have hpool : (s.updateRecord k f).pool = s.pool.update k f := rfl
  rw [hpool, Pool.records_update] at hr
  obtain ⟨x, hx, rfl⟩ := List.mem_map.mp hr
  split
  · exact hf x
  · exact hs x hx

theorem State.noneReleased_free {k : Slot} (hs : s.noneReleased) : (s.freeSlot k).noneReleased := fun r hr =>
  hs r ((freeSlot_records s k r).mp hr).1

theorem State.noneReleased_retire {k : Slot} {r : Record} (hs : s.noneReleased) : (s.retire k r).1.noneReleased := by
  have hs' : (s.dropWaiting k).noneReleased := hs
  obtain ⟨-, heq⟩ | ⟨-, -, heq⟩ | ⟨-, -, heq⟩ := retire_cases s k r <;> rw [heq]
  · exact noneReleased_free hs
  · exact noneReleased_update (f := fun r => { r with phase := .pending, repeats := r.repeats - 1 }.rechecked)
      (fun _ => rfl) hs'
  · exact noneReleased_update (f := fun r => { r with phase := .pending }) (fun _ => rfl) hs'

theorem State.noneReleased_quarantine {k : Slot} (hs : s.noneReleased) :
    (s.setPool (s.pool.quarantineRecord k)).noneReleased := by
  intro r hr
  rw [setPool_pool] at hr
  cases hf : s.pool.find k with
  | none =>
    rw [Pool.quarantineRecord, hf] at hr
    exact hs r hr
  | some x =>
    rw [Pool.quarantineRecord_of_find hf] at hr
    have hr' : r ∈ (s.pool.unlink k).records := hr
    rw [Pool.records_unlink] at hr'
    exact hs r (List.mem_filter.mp hr').1

/-- A change that sets nothing aside keeps releases to when they are allowed. -/
theorem Change.releaseAllowed (h : Change false s u) (hs : s.releaseAllowed) : u.releaseAllowed := by
  cases h with
  | faults x hcapture hcalm =>
    exact hs.imp id fun ⟨hsync, hsup⟩ =>
      ⟨hsync, Bool.eq_false_iff.mpr fun h => by simp [hcalm.resolve_left (by simp) h] at hsup⟩
  | limits x hbounded hcalm =>
    exact hs.imp id fun ⟨hsync, hsup⟩ =>
      ⟨hsync, Bool.eq_false_iff.mpr fun h => by simp [hcalm.resolve_left (by simp) h] at hsup⟩
  | clock x hsound hcalm =>
    obtain hsync | ⟨hnot, -⟩ := hcalm.resolve_left (by simp)
    · exact hs.imp id fun ⟨h, hsup⟩ => ⟨hsync.trans h, hsup⟩
    · exact .inl (hs.resolve_right fun ⟨h, _⟩ => hnot h)
  | free k => exact hs.imp noneReleased_free id
  | returned k f hidle hf =>
    refine hs.imp (fun hnone => noneReleased_update (s := s.dropWaiting k) (fun r => ?_) hnone) id
    simp [Record.isReleased, (hf r).2]
  | pulseEnd b p r why =>
    refine hs.imp (fun hnone => ?_) fun ⟨hsync, hsup⟩ => ⟨?_, ?_⟩
    · exact noneReleased_retire (s := ((s.setBankState b (.recovery (after s.timeBase s.engine.config.bankRecovery))).negateFire
        r.cylinder).setCylinder r.cylinder (s.closePulse p r why (passedBy s.timeBase (s.actualStart r)))) hnone
    · rw [closeBank_clock, hsync]
    · rw [overspeedSuppression_congr (s := s) (by rw [closeBank_limits]) (by rw [closeBank_faults]), hsup]
  | start b r f e planned o =>
    exact hs.imp (fun hnone => noneReleased_update (s := s.dropWaiting r.slot) (fun _ => rfl) hnone) id
  | release r d shortened new period hfind hpending hsync hsuppression => exact .inr ⟨hsync, hsuppression⟩
  | replan k r planned late hfind hreleased =>
    refine .inr (hs.resolve_left fun hnone => ?_)
    rw [hnone r (Pool.find_some hfind).1] at hreleased
    cases hreleased
  | quarantine k r => exact hs.imp noneReleased_quarantine id
  | final t =>
    refine hs.imp (fun hnone r hr => ?_) id
    have hr' : r ∈ (s.pool.mapAll fun r => if t r then r.markFinal else r).records := hr
    rw [Pool.records_mapAll] at hr'
    obtain ⟨x, hx, rfl⟩ := List.mem_map.mp hr'
    rw [(Record.finalIf_keeps t x).2.1]
    exact hnone x hx
  | _ => exact hs

theorem Path.releaseAllowed (h : Path false s u) : s.releaseAllowed → u.releaseAllowed :=
  h.keeps fun _ _ hc => hc.releaseAllowed

end change

/-! ### The same of a run -/

section act
variable {s u : State}

theorem Act.pending (h : Act s u) : u.pending = s.pending := by
  cases h with
  | calm h => exact h.pending
  | whole h => exact h.pending
  | place q marks d bc tag carried repeats report k rest hplan =>
    exact (displaceMarked_path true marks s (planFit_idle hplan)).pending
  | amend r q marks d bc hfind hpending hplan =>
    obtain ⟨-, heq⟩ | ⟨-, heq⟩ := replaceAmended_cases (s.displaceMarked marks) r q.offset d <;> rw [heq]
    all_goals exact (displaceMarked_path true marks s (planFit_idle hplan)).pending
  | reset | config | commit => rfl

theorem Act.clockSound (h : Act s u) (hs : s.clockSound = true) : u.clockSound = true := by
  cases h with
  | calm h => exact h.clockSound hs
  | whole h => exact h.clockSound hs
  | place q marks d bc tag carried repeats report k rest hplan =>
    exact (displaceMarked_path true marks s (planFit_idle hplan)).clockSound hs
  | amend r q marks d bc hfind hpending hplan =>
    obtain ⟨-, heq⟩ | ⟨-, heq⟩ := replaceAmended_cases (s.displaceMarked marks) r q.offset d <;> rw [heq]
    all_goals exact (displaceMarked_path true marks s (planFit_idle hplan)).clockSound hs
  | reset => rfl
  | config | commit => exact hs

theorem Act.responseSound (h : Act s u) (hs : ∀ l, s.responseSound l) : ∀ l, u.responseSound l := by
  cases h with
  | calm h => exact h.responseSound hs
  | whole h => exact h.responseSound hs
  | place q marks d bc tag carried repeats report k rest hplan =>
    exact (displaceMarked_path true marks s (planFit_idle hplan)).responseSound hs
  | amend r q marks d bc hfind hpending hplan =>
    obtain ⟨-, heq⟩ | ⟨-, heq⟩ := replaceAmended_cases (s.displaceMarked marks) r q.offset d <;> rw [heq]
    all_goals exact (displaceMarked_path true marks s (planFit_idle hplan)).responseSound hs
  | reset lines =>
    have hport : resetResponse.check
        = frameCheck (resetResponse.status.code ++ resetResponse.echo ++ resetResponse.data) := by decide +kernel
    intro l
    cases l <;> exact hport
  | config | commit => exact hs

/-- An amended record is PENDING, and the others are as they were. -/
theorem State.noneReleased_amended {r : Record} (hpending : r.isPending = true) (offset : Int) (d : Nat)
    (hr : ∀ x, s.pool.find r.slot = some x → x = r) (hpart : s.pool.partitioned) (hs : s.noneReleased) :
    (s.replaceAmended r offset d).noneReleased := by
  intro x hx
  obtain ⟨-, heq⟩ | ⟨-, heq⟩ := replaceAmended_cases s r offset d <;> rw [heq, setPool_pool] at hx
  · rw [Pool.records_update] at hx
    obtain ⟨y, hy, rfl⟩ := List.mem_map.mp hx
    split
    · next hslot =>
      rw [hr y (hslot ▸ Pool.find_of_mem (Pool.partitioned_slots_nodup hpart) hy)]
      show r.isReleased = false
      rw [Record.isReleased, Record.not_pending hpending]
    · exact hs y hy
  · obtain ⟨c, hc⟩ := (Pool.mem_records _ _).mp hx
    rw [Pool.moveInList_lists, Pool.mem_movedList] at hc
    obtain ⟨hy, -⟩ | ⟨rfl, -⟩ := hc
    · exact hs x ((Pool.mem_records _ _).mpr ⟨c, hy⟩)
    · rw [Record.isReleased, amended_phase, Record.not_pending hpending]

theorem Act.releaseAllowed (h : Act s u) (hs : s.timelineSound) (hallowed : s.releaseAllowed) : u.releaseAllowed := by
  cases h with
  | calm h => exact h.releaseAllowed hallowed
  | whole h hwhole => exact hwhole hs hallowed
  | place q marks d bc tag carried repeats report k rest hplan =>
    refine ((displaceMarked_path false marks s (planFit_idle hplan)).releaseAllowed hallowed).imp (fun hnone x hx => ?_) id
    obtain rfl | hx := List.mem_cons.mp ((Pool.records_insert _ _).mem_iff.mp hx)
    · rfl
    · exact hnone x hx
  | amend r q marks d bc hfind hpending hplan hsound hexclude =>
    have hpath := displaceMarked_path false marks s (planFit_idle hplan)
    have hdisplaced := hpath.releaseAllowed hallowed
    refine hdisplaced.imp (fun hnone => ?_) fun hcalm => ?_
    · refine noneReleased_amended hpending q.offset d (fun x hx => ?_) (hpath.partitioned hs.1) hnone
      rw [displaceMarked_find_excluded hplan hexclude, hfind] at hx
      exact (Option.some.inj hx).symm
    · obtain ⟨-, heq⟩ | ⟨-, heq⟩ := replaceAmended_cases (s.displaceMarked marks) r q.offset d <;> rw [heq]
      all_goals exact hcalm
  | reset lines =>
    exact .inl fun r hr => by cases hr
  | config | commit => exact hallowed

end act

/-- Settles O8: no change releases a record unless it is allowed, and one that ends the allowance is over only when no record is RELEASED. -/
theorem releasedOnlyWhenAllowed : Obligations.ReleasedOnlyWhenAllowed := fun _ _ hs hallowed h =>
  (step_keeps (P := fun s => s.timelineSound ∧ s.releaseAllowed)
    (fun _ _ hact hP => ⟨hact.timelineSound hP.1, hact.releaseAllowed hP.1 hP.2⟩) (fun _ _ h => h) (fun _ _ h => h) h
    ⟨hs, hallowed⟩).2

/-- The interpolated angle adds less than a pitch to the tooth angle, and less than three after the last tooth (R16). -/
theorem Clock.interpolated_bound {c : Clock} {n : Nat} (htooth : c.tooth ≤ 57) (hangle : c.lastAngle = 96 * c.tooth + n)
    (t : Time) : c.interpolated t ≤ n + 5759 := by
  cases hp : c.period with
  | none =>
    simp only [Clock.interpolated, hp, hangle]
    omega
  | some p =>
    rw [Clock.interpolated_some hp, hangle]
    split <;> omega

/-- Settles O9: each change keeps the clock's items those of its state, which bound the tooth and its angle. -/
theorem clockSoundKept : Obligations.ClockSoundKept := by
  unfold Obligations.ClockSoundKept
  refine ⟨fun s s' hs h => step_keeps (P := fun s => s.clockSound = true) (fun _ _ hact => hact.clockSound)
    (fun _ _ h => h) (fun _ _ h => h) h hs, fun s t hs => ?_⟩
  obtain ⟨-, -, -, hgap, hsynced⟩ := (clockSound_iff s).mp hs
  refine ⟨fun h => ?_, fun h => ?_⟩
  · obtain ⟨-, htooth, hangle⟩ := hgap h
    exact Clock.interpolated_bound (n := 0) htooth hangle t
  · obtain ⟨-, htooth, hangle⟩ := hsynced h
    have hbound := Clock.interpolated_bound htooth hangle t
    have hrevolution := s.clock.revolution.isLt
    omega

/-- Settles O12: a response is written with its frame check, and no other change touches one. -/
theorem responseCheckKept : Obligations.ResponseCheckKept := fun _ _ hs h =>
  step_keeps (P := fun s => ∀ l, s.responseSound l) (fun _ _ hact => hact.responseSound) (fun _ _ h => h) (fun _ _ h => h)
    h hs

/-! ### The time of a command (logs 1, 2) -/

namespace State

theorem arrive_arrive (s : State) (t : Time) : (s.arrive t).arrive t = s.arrive t := by
  have h := arrive_now (s.arrive t)
  rwa [arrive_timeBase] at h

theorem onFrame_arrive (s : State) (t : Time) (l : Link) (n : CommandName) (act : State → State × Status × Data) :
    (s.arrive t).onFrame t l n act = s.onFrame t l n act := by
  simp only [onFrame, arrive_arrive]

end State

/-- A command that a frame carries arrives at its time. -/
theorem runCarried_arrive {c : Instr} {t : Time} (hcarried : (writePayload c).isSome = true) (htaken : c.takenAt = some t)
    (s : State) : runCarried c (s.arrive t) = runCarried c s := by
  cases c
  case powerOnReset | crankEdge | camEdge | stallExpiry | peakEdge | stageFaultAssertion | stageFaultNegation | startDecision
    | endOfPulse | peakDeadline | recoveryEnd | refusedFrame | takePlace | takeAmend | takeWithdraw => cases hcarried
  all_goals
    cases htaken
    exact congrArg Host.Outcome.next (onFrame_arrive s t _ _ _)

theorem execRefusedFrame_arrive (t : Time) (l : Link) (f : Frame) (s : State) :
    execRefusedFrame t l f (s.arrive t) = execRefusedFrame t l f s := by
  cases h : frameRefusal f with
  | none =>
    obtain ⟨hcarried, htaken⟩ := readFrame_carried (t := t) (l := l) h
    rw [execRefusedFrame_passed _ _ _ _ h, execRefusedFrame_passed _ _ _ _ h, runCarried_arrive hcarried htaken]
  | some x => simp only [execRefusedFrame, h, arrive_arrive]

/-- Every command but a power-on reset acts on the part as it stands at the command's time. -/
theorem exec_arrive {c : Instr} {t : Time} (htaken : c.takenAt = some t) (s : State) : exec c (s.arrive t) = exec c s := by
  by_cases hcarried : (writePayload c).isSome = true
  · rw [exec_eq_runCarried hcarried, exec_eq_runCarried hcarried, runCarried_arrive hcarried htaken]
  · cases c
    case powerOnReset => cases htaken
    case refusedFrame l f =>
      cases htaken
      exact execRefusedFrame_arrive t l f s
    case crankEdge | camEdge | stallExpiry | peakEdge | stageFaultAssertion | stageFaultNegation | startDecision
      | endOfPulse | peakDeadline | recoveryEnd | takePlace | takeAmend | takeWithdraw =>
      cases htaken
      simp only [exec, execCrankEdge, execCamEdge, execStallExpiry, execPeakEdge, execStageFaultAssertion,
        execStageFaultNegation, execStartDecision, execEndOfPulse, execPeakDeadline, execRecoveryEnd, execTakePlace,
        execTakeAmend, execTakeWithdraw, arrive_arrive]
    all_goals exact absurd rfl hcarried

theorem exec_pending {c : Instr} {s u : State} (h : exec c s = .next u) : u.pending = s.pending :=
  exec_keeps (P := fun v => v.pending = s.pending) (fun _ _ hact hv => hact.pending.trans hv) (fun _ _ hv => hv) h rfl

namespace State

/-! ### The timers (R25, log 2) -/

/-- A timer is armed for a time exactly when the state holds that time for it. -/
theorem armed_eq_some {s : State} {k : Timer} {x : Time} : s.armed k = some x ↔ s.armedFor k x := by
  cases k with
  | peakDeadline b =>
    simp only [armed, armedFor, runningPulse]
    cases (s.drivers.get b).state <;> simp
  | pulseEnd b =>
    simp only [armed, armedFor, runningPulse]
    cases (s.drivers.get b).state <;> simp
  | recoveryEnd b =>
    simp only [armed, armedFor]
    cases (s.drivers.get b).state <;> simp
  | start b =>
    simp only [armed, armedFor, headStart]
    cases hstate : (s.drivers.get b).state with
    | firing | recovery => simp
    | idle =>
      cases hwait : (s.drivers.get b).waiting with
      | nil => simp
      | cons e rest =>
        cases hfind : s.pool.find e.slot with
        | none => simp [hfind]
        | some r => cases hphase : r.phase <;> simp [hfind, hphase]
  | stall =>
    simp only [armed, armedFor]
    split <;> simp_all

theorem dueIn_eq (s : State) (x : Time) : dueIn s.timeBase x = s.delayTo x :=
  if_congr decide_eq_true_iff rfl rfl

/-- A timer's delay counts to the time it is armed for. -/
theorem timerDelay_eq_some {s : State} {k : Timer} {d : Nat} :
    s.timerDelay k = some d ↔ ∃ x, s.armedFor k x ∧ d = s.delayTo x := by
  rw [timerDelay, Option.map_eq_some_iff]
  simp only [armed_eq_some, dueIn_eq, eq_comm (a := d)]

/-- The better of the best timer so far and one more: the one with the smaller delay, the first of equals (log 2). -/
def earlier (s : State) (best : Option (Timer × Nat)) (k : Timer) : Option (Timer × Nat) :=
  match s.timerDelay k, best with
  | some d, some (k', d') => if d < d' then some (k, d) else some (k', d')
  | some d, none => some (k, d)
  | none, best => best

/-- `best` is the earliest of the armed timers among some. -/
def Earliest (s : State) (ks : List Timer) (best : Option (Timer × Nat)) : Prop :=
  (best = none ↔ ∀ k ∈ ks, s.timerDelay k = none)
    ∧ ∀ k d, best = some (k, d) → s.timerDelay k = some d ∧ ∀ k' ∈ ks, ∀ d', s.timerDelay k' = some d' → d ≤ d'

theorem Earliest.step {s : State} {ks : List Timer} {best : Option (Timer × Nat)} (h : s.Earliest ks best) (k : Timer) :
    s.Earliest (ks ++ [k]) (s.earlier best k) := by
  obtain ⟨hnone, hsome⟩ := h
  unfold earlier
  cases hd : s.timerDelay k with
  | none =>
    refine ⟨by simp [hnone, hd, or_imp, forall_and], fun j d hj => ?_⟩
    obtain ⟨hdelay, hleast⟩ := hsome j d hj
    refine ⟨hdelay, fun k' hk' d' hd' => ?_⟩
    obtain hk' | hk' := List.mem_append.mp hk'
    · exact hleast k' hk' d' hd'
    · rw [List.mem_singleton.mp hk', hd] at hd'
      cases hd'
  | some d =>
    cases best with
    | none =>
      refine ⟨by simp [hd], fun j e hj => ?_⟩
      cases hj
      refine ⟨hd, fun k' hk' d' hd' => ?_⟩
      obtain hk' | hk' := List.mem_append.mp hk'
      · rw [hnone.mp rfl k' hk'] at hd'
        cases hd'
      · rw [List.mem_singleton.mp hk', hd] at hd'
        cases hd'
        exact le_rfl
    | some y =>
      obtain ⟨j, e⟩ := y
      obtain ⟨hdelay, hleast⟩ := hsome j e rfl
      dsimp only
      split
      · next hlt =>
        refine ⟨by simp [hd], fun i c hi => ?_⟩
        cases hi
        refine ⟨hd, fun k' hk' d' hd' => ?_⟩
        obtain hk' | hk' := List.mem_append.mp hk'
        · exact (hlt.le.trans (hleast k' hk' d' hd'))
        · rw [List.mem_singleton.mp hk', hd] at hd'
          cases hd'
          exact le_rfl
      · next hge =>
        refine ⟨by simp [hd], fun i c hi => ?_⟩
        cases hi
        refine ⟨hdelay, fun k' hk' d' hd' => ?_⟩
        obtain hk' | hk' := List.mem_append.mp hk'
        · exact hleast k' hk' d' hd'
        · rw [List.mem_singleton.mp hk', hd] at hd'
          cases hd'
          exact Nat.not_lt.mp hge

theorem Earliest.foldl {s : State} (more : List Timer) {ks : List Timer} {best : Option (Timer × Nat)}
    (h : s.Earliest ks best) : s.Earliest (ks ++ more) (more.foldl s.earlier best) := by
  induction more generalizing ks best with
  | nil => simpa using h
  | cons k more ih => simpa using ih (h.step k)

/-- The next timer is the earliest of all. -/
theorem nextTimer_earliest (s : State) : s.Earliest allTimers s.nextTimer :=
  Earliest.foldl (ks := []) (best := none) allTimers ⟨by simp, by simp⟩

theorem mem_allTimers (k : Timer) : k ∈ allTimers := by
  cases k with
  | stall => decide
  | peakDeadline b | pulseEnd b | recoveryEnd b | start b => cases b <;> decide

theorem nextTimer_eq_none (s : State) : s.nextTimer = none ↔ ∀ k x, ¬ s.armedFor k x := by
  rw [(nextTimer_earliest s).1]
  constructor
  · intro h k x hx
    have := (timerDelay_eq_some (s := s) (k := k)).mpr ⟨x, hx, rfl⟩
    rw [h k (mem_allTimers k)] at this
    cases this
  · intro h k _
    refine Option.eq_none_iff_forall_ne_some.mpr fun d hd => ?_
    obtain ⟨x, hx, -⟩ := timerDelay_eq_some.mp hd
    exact h k x hx

theorem nextTimer_eq_some {s : State} {k : Timer} {d : Nat} (h : s.nextTimer = some (k, d)) :
    (∃ x, s.armedFor k x ∧ d = s.delayTo x) ∧ ∀ k' x', s.armedFor k' x' → d ≤ s.delayTo x' := by
  obtain ⟨hdelay, hleast⟩ := (nextTimer_earliest s).2 k d h
  exact ⟨timerDelay_eq_some.mp hdelay,
    fun k' x' hx' => hleast k' (mem_allTimers k') _ (timerDelay_eq_some.mpr ⟨x', hx', rfl⟩)⟩

/-- With no timer due before it, a time is reached by time passing alone. -/
theorem arriveWithin_quiet {s : State} {t : Time} (n : Nat)
    (h : ∀ k d, s.nextTimer = some (k, d) → (t - s.timeBase).toNat ≤ d) : arriveWithin n t s = s.setTimeBase t := by
  cases n with
  | zero => rfl
  | succ n =>
    unfold arriveWithin
    split
    · next k d hnext => exact if_neg (Nat.not_lt.mpr (h k d hnext))
    · rfl

/-- The timer that is due before a time expires at its own time. -/
theorem arriveWithin_due {s : State} {t : Time} (n : Nat) {k : Timer} {d : Nat} (hnext : s.nextTimer = some (k, d))
    (hdue : d < (t - s.timeBase).toNat) :
    arriveWithin (n + 1) t s = arriveWithin n t ((s.setTimeBase (s.timeBase + BitVec.ofNat 32 d)).runTimer k) := by
  rw [arriveWithin, hnext]
  exact if_pos hdue

end State

/-- Settles O3. -/
theorem commandTakenAtItsTime : Obligations.CommandTakenAtItsTime := by
  unfold Obligations.CommandTakenAtItsTime
  refine ⟨fun c t s htaken => (exec_arrive htaken s).symm, fun c s s' h => exec_pending h, fun _ _ => rfl,
    fun s t n h => arriveWithin_quiet n h, fun s t n k d hnext hdue => arriveWithin_due n hnext hdue, nextTimer_eq_none,
    fun s k d h => nextTimer_eq_some h, fun s k => ?_⟩
  cases k <;> simp only [Timer.command, exec, execPeakDeadline, execEndOfPulse, execRecoveryEnd, execStartDecision,
    execStallExpiry, arrive_now, runTimer]

end Sys2Proof.Machine
end

section
/-! PROOF. Items packed into response data and log entries, and what the reads of every link answer: READ_TIME and READ_STATUS (O18),
READ_RECORD (O20), READ_CYLINDER (O21), POP_LOG (O22), the log entries (O23), the flag commands (O24). -/

namespace Sys2Proof.Machine

open State

/-! ### Packed items as numbers (R161, R162) -/

/-- A number in front of another, by the width of the other. -/
theorem toNat_append_add {n m : Nat} (x : BitVec n) (y : BitVec m) : (x ++ y).toNat = x.toNat * 2 ^ m + y.toNat := by
  rw [BitVec.toNat_append, ← Nat.shiftLeft_add_eq_or_of_lt y.isLt, Nat.shiftLeft_eq]

/-- Nine bytes of data as one number. -/
theorem dataOf_toNat (bs : List Byte) :
    (dataOf bs).toNat
      = (bs.getD 0 0).toNat * 2 ^ 64 + (bs.getD 1 0).toNat * 2 ^ 56 + (bs.getD 2 0).toNat * 2 ^ 48
        + (bs.getD 3 0).toNat * 2 ^ 40 + (bs.getD 4 0).toNat * 2 ^ 32 + (bs.getD 5 0).toNat * 2 ^ 24
        + (bs.getD 6 0).toNat * 2 ^ 16 + (bs.getD 7 0).toNat * 2 ^ 8 + (bs.getD 8 0).toNat := by
  have hnine : dataOf bs = dataOf ((List.range 9).map fun i => bs.getD i 0) := rfl
  rw [hnine]
  simp only [List.range, List.range.loop, List.map, dataOf_nine, toNat_append_add]
  omega

/-- Data is equal to other data when its nine bytes give the same number. -/
theorem dataOf_eq {bs : List Byte} {d : Data}
    (h : (bs.getD 0 0).toNat * 2 ^ 64 + (bs.getD 1 0).toNat * 2 ^ 56 + (bs.getD 2 0).toNat * 2 ^ 48
        + (bs.getD 3 0).toNat * 2 ^ 40 + (bs.getD 4 0).toNat * 2 ^ 32 + (bs.getD 5 0).toNat * 2 ^ 24
        + (bs.getD 6 0).toNat * 2 ^ 16 + (bs.getD 7 0).toNat * 2 ^ 8 + (bs.getD 8 0).toNat = d.toNat) : dataOf bs = d :=
  BitVec.eq_of_toNat_eq ((dataOf_toNat bs).trans h)

theorem toNat_byte (n : Nat) : (byte n).toNat = n % 256 := rfl

theorem bitAt_eq (b : Bool) (k : Nat) : bitAt b k = b.toNat * 2 ^ k := by
  cases b <;> simp [bitAt]

/-- A slot item in one byte, FFh for none (R161). -/
theorem byte_slotItem (k : Option Slot) :
    byte (slotItem k) = match k with | some k => BitVec.ofNat 8 k.val | none => 0xFF := by
  cases k <;> rfl

/-- Byte 0 of data is the first byte packed. -/
theorem dataOf_byte0 (b : Byte) (bs : List Byte) : (dataOf (b :: bs)).extractLsb' 64 8 = b := by
  rw [dataOf_cons]
  exact BitVec.extractLsb'_append_eq_left

theorem byte_ne_zero {n : Nat} (h : 0 < n) (h' : n < 256) : byte n ≠ 0 := fun hz => by
  have : n % 256 = 0 := congrArg BitVec.toNat hz
  omega

/-! ### A frame that is taken -/

/-- A frame of a command that its link may carry, on a port that takes frames: the effect and the response of what it does. -/
theorem next_onFrame {s u : State} {t : Time} {l : Link} {n : CommandName} {act : State → State × Status × Data} {x : Status}
    {d : Data} (hl : (s.arrive t).listens l) (hp : permitted n l = true) (hact : act (s.arrive t) = (u, x, d)) :
    (.next (s.onFrame t l n act) : Host.Outcome State Fault Refusal) = .next (u.respond l x (commandCode n) d) := by
  rw [onFrame_taken s t l n act hl hp, hact]

/-! ### READ_TIME and READ_STATUS (R24, R77, R150, R153) -/

theorem time_data (t : Time) : dataOf (bytes4 t.toNat) = t ++ 0#40 := by
  have := t.isLt
  refine dataOf_eq ?_
  simp only [toNat_append_add]
  simp [toNat_byte, bytes4, bytes2]
  omega

theorem statusEvents_data (s : State) (l : Link) :
    s.statusEvents l = (s.flags l).setWidth 16 ++ (s.links.get l).enables.setWidth 16 ++ 0#7 ++ BitVec.ofBool (s.noticeLine l)
      ++ BitVec.ofNat 8 (s.links.get l).log.length ++ 0#24 := by
  have := (s.flags l).isLt
  have := (s.links.get l).enables.isLt
  have := (s.noticeLine l).toNat_le
  refine dataOf_eq ?_
  simp only [toNat_append_add]
  simp [toNat_byte, bytes2, bitAt_eq]
  omega

theorem statusPort_data (s : State) (o : Owner) :
    s.statusPort o = BitVec.ofNat 8 (s.staging.get o).state.code ++ BitVec.ofNat 8 (s.staging.get o).queue.length
      ++ BitVec.ofNat 8 (s.staging.get o).watermark ++ 0#48 := by
  refine dataOf_eq ?_
  simp only [toNat_append_add]
  simp [toNat_byte, stagingCount]
  omega

theorem statusLimits_data (s : State) :
    s.statusLimits = BitVec.ofNat 16 s.limits.overspeed ++ BitVec.ofNat 16 s.limits.budget ++ BitVec.ofNat 8 s.limits.fuelCeiling
      ++ BitVec.ofNat 8 s.limits.thermalCeiling ++ BitVec.ofNat 8 s.limits.reserve ++ s.limits.enables ++ 0#7
      ++ BitVec.ofBool s.limits.overspeedActive := by
  have := s.limits.overspeedActive.toNat_le
  have := s.limits.enables.isLt
  refine dataOf_eq ?_
  simp only [toNat_append_add]
  simp [toNat_byte, bytes2, bitAt_eq]
  omega

theorem requestLink_link (o : Owner) : requestLink o.link = some o := by cases o <;> rfl

/-- A part code that the link does not have is refused (R153). -/
theorem readStatus_badArgument {s : State} {l : Link} {part : Byte} (h1 : part ≠ 1) (h2 : ¬ (part = 2 ∧ l ≠ .supervisor))
    (h3 : ¬ (part = 3 ∧ l = .supervisor)) : s.readStatus l part = (s, .badArgument, 0) := by
  have hpart : statusPartOf part = if part = 2 then some .port else if part = 3 then some .limits else none := if_neg h1
  unfold readStatus
  rw [hpart]
  by_cases hp2 : part = 2
  · obtain rfl : l = .supervisor := by simpa [hp2] using h2
    rw [if_pos hp2]
    rfl
  · rw [if_neg hp2]
    by_cases hp3 : part = 3
    · rw [if_pos hp3]
      cases l with
      | supervisor => exact absurd ⟨hp3, rfl⟩ h3
      | fuel | thermal => rfl
    · rw [if_neg hp3]
      rfl

/-- Settles O18. -/
theorem readTimeAndStatus : Obligations.ReadTimeAndStatus := by
  unfold Obligations.ReadTimeAndStatus
  refine ⟨rfl, rfl, rfl, fun _ _ => ⟨rfl, rfl⟩, rfl, rfl, rfl, rfl, rfl, fun _ _ => rfl, ?_⟩
  intro t l part s a hl
  refine ⟨?_, ?_, ?_, ?_, fun h1 h2 h3 => next_onFrame (n := .readStatus) hl rfl (readStatus_badArgument h1 h2 h3)⟩
  · refine next_onFrame (n := .readTime) (act := fun s => (s, .ok, dataOf (bytes4 s.timeBase.toNat))) hl rfl ?_
    simp only [arrive_timeBase, time_data, a]
  · rintro rfl
    refine next_onFrame (n := .readStatus) (act := fun s => s.readStatus l 1) hl rfl ?_
    rw [← statusEvents_data]
    rfl
  · rintro rfl o rfl
    refine next_onFrame (n := .readStatus) (act := fun s => s.readStatus o.link 2) hl rfl ?_
    rw [← statusPort_data]
    cases o <;> rfl
  · rintro rfl rfl
    refine next_onFrame (n := .readStatus) (act := fun s => s.readStatus .supervisor 3) hl rfl ?_
    rw [← statusLimits_data]
    rfl

/-! ### READ_RECORD (R57) -/

theorem slotOf_val (k : Slot) : slotOf k.val = some k := dif_pos k.isLt

theorem slotOf_of_lt {n : Nat} {k : Slot} (h : k.val = n) : slotOf n = some k := h ▸ slotOf_val k

theorem slotOf_of_gt {n : Nat} (h : 39 < n) : slotOf n = none := dif_neg (by omega)

/-- Which of the four phases a record reads has a code of two bits; so has its owner (R162). -/
theorem Phase.code_lt (p : Phase) : p.code < 4 := by cases p <;> simp [Phase.code]

theorem Owner.code_lt (o : Owner) : o.code < 4 := by cases o <;> decide

theorem Kind.code_lt (k : Kind) : 1 ≤ k.code ∧ k.code ≤ 4 := by cases k <;> decide

theorem placedData_eq (home : BitVec 2) (r : Record) :
    placedData home.toNat r = home ++ BitVec.ofNat 2 r.phase.code ++ BitVec.ofNat 2 r.owner.code ++ BitVec.ofBool r.carried
      ++ BitVec.ofBool r.report ++ r.tag ++ BitVec.ofNat 4 (cylinderNumber r.cylinder) ++ BitVec.ofNat 4 r.priority
      ++ BitVec.ofNat 8 r.kind.code ++ BitVec.ofInt 16 r.offset ++ BitVec.ofNat 16 r.duration ++ BitVec.ofNat 8 r.repeats := by
  have := home.isLt
  have := r.phase.code_lt
  have := r.owner.code_lt
  have := r.carried.toNat_le
  have := r.report.toNat_le
  have := r.tag.isLt
  have := r.cylinder.isLt
  have hoffset := (BitVec.ofInt 16 r.offset).isLt
  refine dataOf_eq ?_
  simp only [toNat_append_add]
  generalize hx : BitVec.ofInt 16 r.offset = x at hoffset
  simp [toNat_byte, bytes2, bitAt_eq, signed2, cylinderNumber, hx]
  omega

theorem timingData_pending (home : BitVec 2) {r : Record} (h : r.phase = .pending) :
    timingData home.toNat r = home ++ 0b01#2 ++ 0#4 ++ BitVec.ofNat 16 r.start ++ 0#48 := by
  have := home.isLt
  refine dataOf_eq ?_
  simp only [toNat_append_add]
  simp [toNat_byte, bytes2, bytes4, bitAt_eq, Record.shortened, Record.final, releasedDuration, phaseTime, Phase.code, h]
  omega

/-- The data of a record that is RELEASED or FIRING: its code, its firing fields, and its time. -/
theorem timingData_running (home code : BitVec 2) {r : Record} {f : FiringFields} {time : Time}
    (hcode : r.phase.code = code.toNat) (hshortened : r.shortened = f.shortened) (hfinal : r.final = f.final)
    (hduration : releasedDuration r = f.duration) (htime : phaseTime r = time.toNat) :
    timingData home.toNat r = home ++ code ++ 0#2 ++ BitVec.ofBool f.shortened ++ BitVec.ofBool f.final
      ++ BitVec.ofNat 16 r.start ++ BitVec.ofNat 16 f.duration ++ time := by
  have := home.isLt
  have := code.isLt
  have := f.shortened.toNat_le
  have := f.final.toNat_le
  have := time.isLt
  refine dataOf_eq ?_
  simp only [toNat_append_add]
  simp [toNat_byte, bytes2, bytes4, bitAt_eq, hcode, hshortened, hfinal, hduration, htime]
  omega

theorem recordPartOf_of_ne {part : Byte} (h1 : part ≠ 1) (h2 : part ≠ 2) : recordPartOf part = none :=
  (if_neg h1).trans (if_neg h2)

theorem recordPartOf_one : recordPartOf 1 = some .placed := rfl
theorem recordPartOf_two : recordPartOf 2 = some .timing := rfl

/-- The record a slot holds, with the code of its home (R57, R162). -/
theorem slotContents_of {s : State} {k : Slot} {home : BitVec 2} {r : Record}
    (h : (s.pool.find k = some r ∧ home = 2)
      ∨ (s.pool.find k = none ∧ (s.pool.quarantine.find? fun r => r.slot == k) = some r ∧ home = 3)) :
    s.slotContents k = some (home.toNat, r) := by
  unfold slotContents
  obtain ⟨hf, rfl⟩ | ⟨hf, hq, rfl⟩ := h
  · rw [hf]
    rfl
  · rw [hf]
    simp only [hq, Option.map_some]
    rfl

/-- Settles O20. -/
theorem readRecord : Obligations.ReadRecord := by
  unfold Obligations.ReadRecord
  intro t l slot part s a hl
  have hanswer {x : Status} {d : Data} (h : a.readRecord slot part = (a, x, d)) :
      exec (.readRecord t l slot part) s = .next (a.respond l x 0x05 d) :=
    next_onFrame (n := .readRecord) (act := fun s => s.readRecord slot part) hl rfl h
  refine ⟨fun hbad => hanswer ?_, fun k hk hpart => ⟨fun hf hq => hanswer ?_, fun home r hheld => ?_⟩⟩
  · unfold State.readRecord
    obtain hslot | ⟨h1, h2⟩ := hbad
    · rw [slotOf_of_gt hslot]
      rfl
    · rw [recordPartOf_of_ne h1 h2]
      cases slotOf slot.toNat <;> rfl
  · have hcontents : a.slotContents k = none := by simp [slotContents, hf, hq]
    unfold State.readRecord
    rw [slotOf_of_lt hk]
    obtain rfl | rfl := hpart
    · simp only [recordPartOf_one, hcontents]
      rfl
    · simp only [recordPartOf_two, hcontents]
      rfl
  · have hplaced (h : part = 1) : a.readRecord slot part = (a, .ok, placedData home.toNat r) := by
      subst h
      simp only [State.readRecord, slotOf_of_lt hk, recordPartOf_one, slotContents_of hheld]
    have htiming (h : part = 2) : a.readRecord slot part = (a, .ok, timingData home.toNat r) := by
      subst h
      simp only [State.readRecord, slotOf_of_lt hk, recordPartOf_two, slotContents_of hheld]
    refine ⟨fun h => hanswer ?_, fun h hphase => hanswer ?_, fun f planned h hphase => hanswer ?_,
      fun f actual h hphase => hanswer ?_⟩
    · rw [hplaced h, placedData_eq]
    · rw [htiming h, timingData_pending home hphase]
    · rw [htiming h, timingData_running home 2 (f := f) (time := planned)]
      all_goals simp [hphase, Phase.code, Record.shortened, Record.final, releasedDuration, phaseTime]
    · rw [htiming h, timingData_running home 3 (f := f) (time := actual)]
      all_goals simp [hphase, Phase.code, Record.shortened, Record.final, releasedDuration, phaseTime]

/-! ### READ_CYLINDER (R58, R59) -/

theorem cylinderOf_number (c : Cylinder) : cylinderOf (cylinderNumber c) = some c := by
  unfold cylinderOf cylinderNumber
  rw [dif_pos (by omega)]
  rfl

theorem cylinderOf_of_gt {n : Nat} (h : 8 < n) : cylinderOf n = none := dif_neg (by omega)

theorem bankCode_lt (b : Option Bank) : bankCode b < 4 := by
  cases b with
  | none => decide
  | some b => cases b <;> decide

theorem summaryData_eq {s : State} (h : ∀ c, (s.pool.lists.get c).length ≤ 15) :
    s.summaryData = BitVec.ofNat 8 s.pool.free.length ++ BitVec.ofNat 8 s.pool.quarantine.length
      ++ BitVec.ofNat 4 (s.pool.lists.get 0).length ++ BitVec.ofNat 4 (s.pool.lists.get 1).length
      ++ BitVec.ofNat 4 (s.pool.lists.get 2).length ++ BitVec.ofNat 4 (s.pool.lists.get 3).length
      ++ BitVec.ofNat 4 (s.pool.lists.get 4).length ++ BitVec.ofNat 4 (s.pool.lists.get 5).length
      ++ BitVec.ofNat 4 (s.pool.lists.get 6).length ++ BitVec.ofNat 4 (s.pool.lists.get 7).length
      ++ byte (slotItem s.pool.free.head?) ++ byte (slotItem (headSlot s.pool.quarantine)) ++ 0#8 := by
  have := h 0
  have := h 1
  have := h 2
  have := h 3
  have := h 4
  have := h 5
  have := h 6
  have := h 7
  refine dataOf_eq ?_
  simp only [toNat_append_add]
  simp [toNat_byte]
  omega

theorem totalsData_eq {s : State} {c : Cylinder} (hlist : (s.pool.lists.get c).length ≤ 7) (hstreak : (s.table.get c).streak ≤ 3) :
    s.totalsData c = BitVec.ofBool (s.enabled c)
      ++ BitVec.ofNat 2 (if s.configured.contains c then bankCode (s.table.get c).bank else 0)
      ++ BitVec.ofNat 3 (if s.configured.contains c then (s.pool.lists.get c).length else 0)
      ++ BitVec.ofNat 2 (s.table.get c).streak ++ BitVec.ofNat 16 (if s.configured.contains c then (s.table.get c).tdc else 0)
      ++ BitVec.ofNat 16 (s.table.get c).released ++ BitVec.ofNat 16 (s.table.get c).fired
      ++ BitVec.ofNat 16 (s.table.get c).lastFired := by
  have := (s.enabled c).toNat_le
  have := bankCode_lt (s.table.get c).bank
  refine dataOf_eq ?_
  simp only [toNat_append_add]
  by_cases hknown : c ∈ s.configured
  · simp [toNat_byte, bytes2, bitAt_eq, listLength, hknown]
    omega
  · simp [toNat_byte, bytes2, bitAt_eq, listLength, hknown]
    omega

theorem carryData_none {s : State} {c : Cylinder} (h : (s.table.get c).carry = none) :
    s.carryData c = 0#40 ++ BitVec.ofNat 8 (s.table.get c).carryCount ++ byte (slotItem (headSlot (s.pool.lists.get c)))
      ++ 0#16 := by
  refine dataOf_eq ?_
  simp only [toNat_append_add, h]
  simp [toNat_byte, bytes2, bitAt_eq, signed2]
  omega

theorem carryData_some {s : State} {c : Cylinder} {x : CarryEntry} (h : (s.table.get c).carry = some x) :
    s.carryData c = 1#8 ++ BitVec.ofInt 16 x.offset ++ BitVec.ofNat 16 x.duration ++ BitVec.ofNat 8 (s.table.get c).carryCount
      ++ byte (slotItem (headSlot (s.pool.lists.get c))) ++ 0#16 := by
  have hoffset := (BitVec.ofInt 16 x.offset).isLt
  refine dataOf_eq ?_
  simp only [toNat_append_add, h]
  generalize hx : BitVec.ofInt 16 x.offset = y at hoffset
  simp [toNat_byte, bytes2, bitAt_eq, signed2, hx]
  omega

/-- Settles O21. -/
theorem readCylinder : Obligations.ReadCylinder := by
  unfold Obligations.ReadCylinder
  intro t l cylinder part s a list len slot first hl
  have hslot (k : Option Slot) : slot k = byte (slotItem k) := (byte_slotItem k).symm
  have hfirst (rs : List Record) : first rs = byte (slotItem (headSlot rs)) := hslot _
  have hanswer {x : Status} {d : Data} (h : a.readCylinder cylinder part = (a, x, d)) :
      exec (.readCylinder t l cylinder part) s = .next (a.respond l x 0x06 d) :=
    next_onFrame (n := .readCylinder) (act := fun s => s.readCylinder cylinder part) hl rfl h
  refine ⟨fun hzero hlen => hanswer ?_, fun hbad => hanswer ?_, fun c hc => ?_⟩
  · rw [hslot, hfirst, State.readCylinder, if_pos hzero, summaryData_eq hlen]
  · have hne : cylinder ≠ 0 := by
      rintro rfl
      simp at hbad
    rw [State.readCylinder, if_neg hne]
    obtain hgt | ⟨-, h1, h2⟩ := hbad
    · rw [cylinderOf_of_gt hgt]
      rfl
    · have hnone : cylinderPartOf part = none := (if_neg h1).trans (if_neg h2)
      rw [hnone]
      cases cylinderOf cylinder.toNat <;> rfl
  · have hne : cylinder ≠ 0 := by
      rintro rfl
      simp [cylinderNumber] at hc
    have hof : cylinderOf cylinder.toNat = some c := hc ▸ cylinderOf_number c
    refine ⟨?_, ?_, ?_⟩
    · rintro rfl hlist hstreak
      refine hanswer ?_
      rw [← totalsData_eq hlist hstreak]
      simp only [State.readCylinder, if_neg hne, hof]
      rfl
    · rintro rfl hcarry
      refine hanswer ?_
      rw [hfirst, ← carryData_none hcarry]
      simp only [State.readCylinder, if_neg hne, hof]
      rfl
    · rintro x rfl hcarry
      refine hanswer ?_
      rw [hfirst, ← carryData_some hcarry]
      simp only [State.readCylinder, if_neg hne, hof]
      rfl

/-! ### POP_LOG (R148) -/

/-- Settles O22. -/
theorem popLog : Obligations.PopLog := by
  unfold Obligations.PopLog
  intro t l s a hl
  refine ⟨fun hempty => ?_, fun e rest hfront => ?_⟩
  · refine next_onFrame (n := .popLog) (act := fun s => s.popLog l) hl rfl ?_
    simp only [State.popLog, hempty, a]
  · refine next_onFrame (n := .popLog) (act := fun s => s.popLog l) hl rfl ?_
    simp only [State.popLog, hfront, a]

/-! ### The log entries (section 9.8) -/

/-- The clamp flags as the four bits of an entry. -/
theorem ClampFlags.code_eq (f : ClampFlags) :
    f.code = (BitVec.ofBool f.budget ++ BitVec.ofBool f.offset ++ BitVec.ofBool f.duration ++ BitVec.ofBool f.priority).toNat := by
  obtain ⟨a, b, c, d⟩ := f
  cases a <;> cases b <;> cases c <;> cases d <;> rfl

theorem Reason.code_lt (x : Reason) : 1 ≤ x.code ∧ x.code ≤ 15 := by cases x <;> decide
theorem DisplaceCause.code_lt (x : DisplaceCause) : 1 ≤ x.code ∧ x.code ≤ 5 := by cases x <;> decide
theorem StagedCommand.code_lt (x : StagedCommand) : 1 ≤ x.code ∧ x.code ≤ 3 := by cases x <;> decide
theorem FaultKind.code_lt (x : FaultKind) : 1 ≤ x.code ∧ x.code ≤ 11 ∧ x.severity ≤ 4 := by cases x <;> decide
theorem Outcome.code_le (x : Outcome) : x.code ≤ 10 := by
  cases x with
  | started o => cases o <;> decide
  | suppressed c => cases c <;> decide
  | _ => decide

/-- Byte 0 of an entry carries its type, which is never 0 (section 9.8). -/
theorem LogEntry.data_byte0 (e : LogEntry) : e.data.extractLsb' 64 8 ≠ 0 := by
  have hbyte (n : Nat) (bs : List Byte) (h : 0 < n) (h' : n < 256) : (dataOf (byte n :: bs)).extractLsb' 64 8 ≠ 0 := by
    rw [dataOf_byte0]
    exact byte_ne_zero h h'
  cases e with
  | placed | amended | withdrawn => exact hbyte _ _ (by decide) (by decide)
  | refused x k tag reason =>
    have := reason.code_lt
    exact hbyte _ _ (by omega) (by omega)
  | displaced k tag c kind carried cause =>
    have := cause.code_lt
    exact hbyte _ _ (by omega) (by omega)
  | firing r =>
    have := r.outcome.code_le
    have := r.cylinder.isLt
    exact hbyte _ _ (by omega) (by omega)
  | mark i =>
    have := i.isLt
    exact hbyte _ _ (by omega) (by omega)
  | fault r =>
    have := r.kind.code_lt
    exact hbyte _ _ (by omega) (by omega)

namespace LogEntry

theorem placed_data {f : ClampFlags} {clamps : BitVec 4} (hf : clamps.toNat = f.code) (k : Slot) (tag : Byte) (disabled : Bool)
    (n d : Nat) : (placed k tag f disabled n d).data
      = 0x10#8 ++ BitVec.ofNat 8 k.val ++ tag ++ 0#3 ++ BitVec.ofBool disabled ++ clamps ++ BitVec.ofNat 8 n
        ++ BitVec.ofNat 16 d ++ 0#16 := by
  have := clamps.isLt
  have := disabled.toNat_le
  have := tag.isLt
  refine dataOf_eq ?_
  simp only [toNat_append_add, hf]
  simp [toNat_byte, bytes2, bitAt_eq]
  omega

theorem amended_data {f : ClampFlags} {clamps : BitVec 4} (hf : clamps.toNat = f.code) (k : Slot) (tag : Byte) (n d : Nat) :
    (amended k tag f n d).data
      = 0x20#8 ++ BitVec.ofNat 8 k.val ++ tag ++ 0#4 ++ clamps ++ BitVec.ofNat 8 n ++ BitVec.ofNat 16 d ++ 0#16 := by
  have := clamps.isLt
  have := tag.isLt
  refine dataOf_eq ?_
  simp only [toNat_append_add, hf]
  simp [toNat_byte, bytes2]
  omega

theorem withdrawn_data (k : Slot) (tag : Byte) :
    (withdrawn k tag).data = 0x30#8 ++ BitVec.ofNat 8 k.val ++ tag ++ 0#48 := by
  have := tag.isLt
  refine dataOf_eq ?_
  simp only [toNat_append_add]
  simp [toNat_byte]
  omega

theorem refused_data {f : ClampFlags} {clamps : BitVec 4} (hf : clamps.toNat = f.code) {b : Option Slot} {blocking : Byte}
    (hb : blocking = byte (slotItem b)) (x : StagedCommand) (k : Option Byte) (tag : Byte) (reason : Reason) :
    (refused x k tag reason f b).data
      = 0x4#4 ++ BitVec.ofNat 4 reason.code ++ k.getD 0xFF#8 ++ tag ++ 0#1 ++ BitVec.ofNat 2 x.code ++ 0#1 ++ clamps
        ++ blocking ++ 0#32 := by
  have := clamps.isLt
  have := tag.isLt
  have := reason.code_lt
  have := x.code_lt
  have := (k.getD 0xFF#8).isLt
  refine dataOf_eq ?_
  simp only [toNat_append_add, hf, hb]
  simp [toNat_byte]
  omega

theorem displaced_data {x : Kind} {kind2 : BitVec 2} (hx : x.code - 1 = kind2.toNat) (k : Slot) (tag : Byte) (c : Cylinder)
    (carried : Bool) (cause : DisplaceCause) : (displaced k tag c x carried cause).data
      = 0x5#4 ++ BitVec.ofNat 4 cause.code ++ BitVec.ofNat 8 k.val ++ tag ++ 0#1 ++ BitVec.ofBool carried ++ kind2
        ++ BitVec.ofNat 4 (cylinderNumber c) ++ 0#40 := by
  have := kind2.isLt
  have := tag.isLt
  have := cause.code_lt
  have := carried.toNat_le
  have := c.isLt
  refine dataOf_eq ?_
  simp only [toNat_append_add]
  simp [toNat_byte, bitAt_eq, hx, cylinderNumber]
  omega

theorem firing_data (r : FiringReport) {kind2 : BitVec 2} (hx : r.kind.code - 1 = kind2.toNat) : (firing r).data
    = 1#1 ++ BitVec.ofNat 4 r.outcome.code ++ BitVec.ofNat 3 r.cylinder.val ++ BitVec.ofBool r.freed
      ++ BitVec.ofBool r.carried ++ BitVec.ofNat 6 r.slot.val ++ r.tag ++ BitVec.ofNat 4 (r.duration / 256)
      ++ BitVec.ofBool r.noRise ++ BitVec.ofBool r.shortened ++ kind2 ++ BitVec.ofNat 8 r.duration
      ++ BitVec.ofNat 8 r.repeats ++ r.cycle.setWidth 8 ++ (r.start.getD 0).setWidth 16 := by
  obtain ⟨slot, tag, cylinder, kind, carried, cycle, outcome, shortened, noRise, start, duration, repeats, freed⟩ := r
  have := kind2.isLt
  have := tag.isLt
  have := outcome.code_le
  have := cylinder.isLt
  have := slot.isLt
  have := freed.toNat_le
  have := carried.toNat_le
  have := noRise.toNat_le
  have := shortened.toNat_le
  refine dataOf_eq ?_
  cases start
  all_goals
    simp only [toNat_append_add]
    simp [toNat_byte, bytes2, bitAt_eq, hx]
    omega

theorem mark_data (i : MarkIndex) (c : Cylinder) (cycle : Word16) (time : Time) : (mark i c cycle time).data
    = 0x6#4 ++ BitVec.ofNat 4 i.val ++ BitVec.ofNat 8 (cylinderNumber c) ++ cycle ++ time ++ 0#8 := by
  have := i.isLt
  have := cycle.isLt
  have := time.isLt
  refine dataOf_eq ?_
  simp only [toNat_append_add]
  simp [toNat_byte, bytes2, bytes4]
  omega

theorem fault_data (r : FaultRecord) {slot : Byte} (hslot : slot = byte (slotItem r.slot)) {cylinder : Nat}
    (hcylinder : cylinder = cylinderItem r.cylinder) : (fault r).data
    = 0x7#4 ++ BitVec.ofNat 4 r.kind.code ++ BitVec.ofNat 4 cylinder ++ BitVec.ofNat 4 r.kind.severity ++ slot ++ r.cycle
      ++ r.time := by
  have := r.kind.code_lt
  have := r.cycle.isLt
  have := r.time.isLt
  have hle : cylinderItem r.cylinder ≤ 8 := by
    cases r.cylinder with
    | none => exact Nat.zero_le _
    | some c => exact c.isLt
  refine dataOf_eq ?_
  simp only [toNat_append_add, hslot, hcylinder]
  simp [toNat_byte, bytes2, bytes4]
  omega

end LogEntry

/-- Settles O23: the entries' shapes one by one. -/
theorem logEntryShapes : Obligations.LogEntryShapes := by
  unfold Obligations.LogEntryShapes
  intro slot8 orNone clamps kind2
  have hclamps (f : ClampFlags) : (clamps f).toNat = f.code := f.code_eq.symm
  have hnone (k : Option Slot) : orNone k = byte (slotItem k) := (byte_slotItem k).symm
  have hkind (k : Kind) : k.code - 1 = (kind2 k).toNat := by cases k <;> rfl
  refine ⟨fun k tag f disabled n d => LogEntry.placed_data (hclamps f) k tag disabled n d,
    fun k tag f n d => LogEntry.amended_data (hclamps f) k tag n d, LogEntry.withdrawn_data,
    fun x k tag reason f b => LogEntry.refused_data (hclamps f) (hnone b) x k tag reason,
    fun k tag c x carried cause => LogEntry.displaced_data (hkind x) k tag c carried cause,
    fun r => LogEntry.firing_data r (hkind r.kind), LogEntry.mark_data,
    fun r => LogEntry.fault_data r (hnone r.slot) ?_, LogEntry.data_byte0, rfl, rfl, rfl, rfl, rfl⟩
  cases r.cylinder <;> rfl

/-! ### ACK_EVENTS and SET_NOTICE_ENABLES (R150, R152) -/

/-- A set of flags in two bytes (R161). -/
theorem flags_data (x : BitVec 11) : dataOf (bytes2 x.toNat) = x.setWidth 16 ++ 0#56 := by
  have := x.isLt
  refine dataOf_eq ?_
  simp only [toNat_append_add]
  simp [toNat_byte, bytes2]
  omega

/-- Two sets of flags in two bytes each (R161). -/
theorem flags_flags_data (x y : BitVec 11) :
    dataOf (bytes2 x.toNat ++ bytes2 y.toNat) = x.setWidth 16 ++ y.setWidth 16 ++ 0#40 := by
  have := x.isLt
  have := y.isLt
  refine dataOf_eq ?_
  simp only [toNat_append_add]
  simp [toNat_byte, bytes2]
  omega

/-- The level flags do not depend on the sticky flags and the enables of a link. -/
theorem levelFlags_setLink (s : State) (l : Link) (x e : BitVec 11) :
    (s.setLink l { s.links.get l with sticky := x, enables := e }).levelFlags l = s.levelFlags l := by
  cases l <;> rfl

/-- Settles O24. -/
theorem flagCommands : Obligations.FlagCommands := by
  unfold Obligations.FlagCommands
  intro t l written s a sticky cleared owned enabled hl
  have howned : linkFlags l = owned := by cases l <;> rfl
  constructor
  · refine next_onFrame (n := .ackEvents) (act := fun s => s.ackEvents l written) hl rfl ?_
    have hflags : cleared.flags l = sticky ||| a.levelFlags l := by
      rw [flags, levelFlags_setLink a l sticky (a.links.get l).enables]
      simp [cleared, setLink_links]
    have hstate : a.clearFlags l (written.setWidth 11) = cleared := rfl
    show ((a.clearFlags l (written.setWidth 11), Status.ok,
      dataOf (bytes2 ((a.clearFlags l (written.setWidth 11)).flags l).toNat)) : State × Status × Data) = _
    rw [hstate, hflags, flags_data]
  · refine next_onFrame (n := .setNoticeEnables) (act := fun s => s.setNoticeEnables l written) hl rfl ?_
    have hflags : enabled.flags l = a.flags l := by
      rw [flags, levelFlags_setLink a l (a.links.get l).sticky _]
      simp [enabled, setLink_links, flags]
    have hget : (enabled.links.get l).enables = written.setWidth 11 &&& owned := by simp [enabled, setLink_links]
    have hstate : a.setLink l { a.links.get l with enables := written.setWidth 11 &&& linkFlags l } = enabled := by
      rw [howned]
    show ((a.setLink l { a.links.get l with enables := written.setWidth 11 &&& linkFlags l }, Status.ok,
      dataOf (bytes2 (((a.setLink l { a.links.get l with enables := written.setWidth 11 &&& linkFlags l }).links.get l).enables).toNat
        ++ bytes2 ((a.setLink l { a.links.get l with enables := written.setWidth 11 &&& linkFlags l }).flags l).toNat))
        : State × Status × Data) = _
    rw [hstate, hflags, hget, flags_flags_data]

end Sys2Proof.Machine
end

section
/-! PROOF. The queue (O1, O2), RESET_N (O4, O5), and the frames of the links (O13, O14, O15, O16). -/

namespace Sys2Proof.Machine

open State

/-! ### The queue (log 3) -/

/-- Settles O1. -/
theorem stepRunsFrontCommand : Obligations.StepRunsFrontCommand := by
  intro c rest s h
  rw [step, h]

theorem step_of_empty {s : State} (h : s.pending = []) : step s = .next s.idle := by
  rw [step, h]

/-- With no timer due now the placement unit takes its turn, or time passes. -/
theorem idle_of_quiet {s : State} (h : ∀ k, s.nextTimer ≠ some (k, 0)) :
    s.idle = match s.nextTake with | some _ => s.take | none => s.setTimeBase (after s.timeBase 1) := by
  unfold State.idle
  split
  · next k hk => exact absurd hk (h k)
  · cases s.nextTake <;> rfl

/-- Settles O2: the three ways a state with an empty queue idles. -/
theorem emptyQueueIdles : Obligations.EmptyQueueIdles := by
  intro s hempty
  refine ⟨fun k hk => ?_, fun hquiet htake => ?_, fun hquiet htake => ?_⟩
  · rw [step_of_empty hempty, State.idle, hk]
    rfl
  · obtain ⟨x, hx⟩ := Option.ne_none_iff_exists'.mp htake
    rw [step_of_empty hempty, idle_of_quiet hquiet, hx]
  · rw [step_of_empty hempty, idle_of_quiet hquiet, htake]
    rfl

/-! ### RESET_N (R55, R118) -/

theorem masked_of_mask_zero {s : State} (h : s.faults.mask = 0) (k : FaultKind) : s.masked k = false := by
  simp [masked, h]

theorem latchFault_mask (s : State) (r : FaultRecord) : (s.latchFault r).faults.mask = s.faults.mask := by
  unfold latchFault
  dsimp only
  split <;> simp

theorem masked_latchFault (s : State) (r : FaultRecord) (k : FaultKind) : (s.latchFault r).masked k = s.masked k := by
  rw [masked, latchFault_mask]
  rfl

theorem takeFault_of_masked {s : State} {r : FaultRecord} (h : s.masked r.kind = true) : s.takeFault r = s.latchFault r :=
  if_pos (by rw [masked_latchFault, h])

theorem takeFault_of_unmasked {s : State} {r : FaultRecord} (h : s.masked r.kind = false) :
    s.takeFault r = (s.latchFault r).append .supervisor (.fault r) :=
  if_neg (by rw [masked_latchFault, h]; decide)

theorem reactUnmasked_none {s : State} {k : FaultKind} {c : Option Cylinder} (ho : k ≠ .overspeed) (hi : k ≠ .injectorWatch) :
    s.reactUnmasked k c = s := by
  have hreact : s.react k c = s := by
    cases k
    case overspeed => exact absurd rfl ho
    case injectorWatch => exact absurd rfl hi
    all_goals rfl
  rw [reactUnmasked, hreact, ite_self]

/-- A fault kind without a reaction is only taken (section 8.1). -/
theorem raiseFault_taken {s : State} {k : FaultKind} {c : Option Cylinder} {x : Option Slot} (ho : k ≠ .overspeed)
    (hi : k ≠ .injectorWatch) : s.raiseFault k c x = s.takeFault (s.faultNow k c x) :=
  reactUnmasked_none ho hi

theorem latchFault_first {s : State} (h : s.faults.capture = none) (r : FaultRecord) :
    s.latchFault r = (s.setFaults { s.faults with
      pending := s.faults.pending ||| r.kind.mask, capture := some { record := r, follow := 0 } }).raiseFlag .supervisor .capture := by
  simp [latchFault, h, offerCapture]

/-- A fault no graver than the one the capture record holds is counted as a follow-up (R144). -/
theorem latchFault_follow {s : State} {h : Capture} (hc : s.faults.capture = some h) {r : FaultRecord}
    (hr : r.kind.severity ≤ h.record.kind.severity) :
    s.latchFault r = s.setFaults { s.faults with
      pending := s.faults.pending ||| r.kind.mask, capture := some { h with follow := min Config.followLimit (h.follow + 1) } } := by
  simp [latchFault, hc, offerCapture, Nat.not_lt.mpr hr]

theorem assertStage_idle {s : State} {b : Bank} (hline : (s.drivers.get b).stageFault = false)
    (hidle : (s.drivers.get b).state = .idle) :
    s.assertStage b = (s.setStageLine b true).raiseFault .stageFault none none := by
  have hnone : (s.setStageLine b true).runningPulse b = none := by simp [runningPulse, setStageLine, setBank, hidle]
  simp [assertStage, hline, hnone]

theorem setLink_setLink (s : State) (l : Link) (x y : LinkPort) : (s.setLink l x).setLink l y = s.setLink l y := by
  cases l <;> rfl

theorem raiseFlag_first {s : State} {l : Link} {f : Flag} (h : (s.links.get l).sticky = 0) :
    s.raiseFlag l f = s.setLink l { s.links.get l with sticky := f.mask } := by
  rw [raiseFlag, h]
  simp

/-- The first fault after a reset: latched, captured, and the one entry of the supervisor's log. -/
theorem raiseFault_atReset {s : State} (hfaults : s.faults = resetFaults) (hlog : (s.links.get .supervisor).log = [])
    (hsticky : (s.links.get .supervisor).sticky = 0) :
    s.raiseFault .stageFault none none
      = let r := s.faultNow .stageFault none none
        (s.setFaults { pending := FaultKind.stageFault.mask, mask := 0, capture := some { record := r, follow := 0 }, raised := [] }).setLink
          .supervisor { s.links.get .supervisor with log := [.fault r], sticky := Flag.capture.mask } := by
  rw [raiseFault_taken (by decide) (by decide), takeFault_of_unmasked (masked_of_mask_zero (by rw [hfaults]; rfl) _),
    latchFault_first (by rw [hfaults]; rfl), raiseFlag_first (by exact hsticky), append_of_room _ _ _ (by simp [hlog])]
  simp [hfaults, hlog, resetFaults, faultNow, setLink_setLink]

/-- A further fault of the same kind: counted in the capture record, and one more entry of the supervisor's log. -/
theorem raiseFault_again {s : State} {h : Capture} (hmask : s.faults.mask = 0) (hcapture : s.faults.capture = some h)
    (hkind : h.record.kind = .stageFault) (hpending : s.faults.pending = FaultKind.stageFault.mask)
    (hroom : (s.links.get .supervisor).log.length < 32) :
    s.raiseFault .stageFault none none
      = (s.setFaults { s.faults with capture := some { h with follow := min Config.followLimit (h.follow + 1) } }).setLink .supervisor
          { s.links.get .supervisor with
            log := (s.links.get .supervisor).log ++ [.fault (s.faultNow .stageFault none none)] } := by
  rw [raiseFault_taken (by decide) (by decide), takeFault_of_unmasked (masked_of_mask_zero hmask _),
    latchFault_follow hcapture (by rw [hkind]; exact le_rfl), append_of_room _ _ _ (by exact hroom)]
  simp [hpending, faultNow]

/-- Settles O4: the reset state by computation, and the STAGE_FAULT of each line that is found asserted. -/
theorem powerOnReset : Obligations.PowerOnReset := by
  unfold Obligations.PowerOnReset
  refine ⟨fun ⟨a, b, _, _, _⟩ s ha hb => ?_, fun ⟨a, b, x, y, z⟩ s h => ?_⟩
  · dsimp only at ha hb
    subst ha hb
    rfl
  · intro r both
    refine ⟨s.poweredOn ⟨false, false, x, y, z⟩, rfl, ?_⟩
    have hfirst (b : Bank) := raiseFault_atReset (s := (s.poweredOn ⟨false, false, x, y, z⟩).setStageLine b true)
      (by cases b <;> rfl) (by cases b <;> rfl) (by cases b <;> rfl)
    have honeA : exec (.powerOnReset ⟨true, false, x, y, z⟩) s
        = .next (((s.poweredOn ⟨false, false, x, y, z⟩).setStageLine .bankA true).raiseFault .stageFault none none) := rfl
    have honeB : exec (.powerOnReset ⟨false, true, x, y, z⟩) s
        = .next (((s.poweredOn ⟨false, false, x, y, z⟩).setStageLine .bankB true).raiseFault .stageFault none none) := rfl
    have hA := (assertStage_idle (s := s.poweredOn ⟨false, false, x, y, z⟩) (b := .bankA) rfl rfl).trans (hfirst .bankA)
    have hboth : exec (.powerOnReset ⟨true, true, x, y, z⟩) s
        = .next (((s.poweredOn ⟨false, false, x, y, z⟩).assertStage .bankA).assertStage .bankB) := rfl
    cases a <;> cases b
    · simp at h
    · rw [honeB, hfirst]
      rfl
    · rw [honeA, hfirst]
      rfl
    · rw [hboth, hA, assertStage_idle rfl rfl, raiseFault_again (by rfl) (by rfl) (by rfl) (by rfl) (by exact (by decide : 1 < 32))]
      rfl

/-- Settles O5: every invariant evaluated at the reset state. -/
theorem invariantsAtReset : Obligations.InvariantsAtReset := by
  have hcarry : ∀ c : Cylinder, (State.reset.table.get c).carry = none := by decide
  have hranges : State.reset.rangesSound := ⟨by decide, by decide, by decide, by decide, fun c _ x hx => by
    rw [hcarry c] at hx
    cases hx⟩
  refine ⟨by decide, by decide, by decide, by decide, by decide, hranges, by decide, by decide, rfl, by decide, by decide, rfl,
    fun l => ?_⟩
  exact (Act.reset State.reset ⟨false, false, false, false, false⟩).responseSound (s := State.reset) (fun l => by
    cases l <;> decide +kernel) l

/-! ### A frame and the command it carries (R158, R161, R163) -/

/-- A command that a frame carries does what its frame does at the link it is sent on. -/
theorem runCarried_onFrame {c : Instr} {t : Time} {l : Link} {n : CommandName} {p : Payload}
    (hcarried : writePayload c = some (n, p)) (htaken : c.takenAt = some t) (hsender : c.sender = some l) (s : State) :
    ∃ act, runCarried c s = .next (s.onFrame t l n act) := by
  cases c
  case powerOnReset | crankEdge | camEdge | stallExpiry | peakEdge | stageFaultAssertion | stageFaultNegation | startDecision
    | endOfPulse | peakDeadline | recoveryEnd | refusedFrame | takePlace | takeAmend | takeWithdraw => cases hcarried
  all_goals
    cases hcarried
    cases htaken
    cases hsender
    exact ⟨_, rfl⟩

theorem readPayload_sender (t : Time) (l : Link) (p : Payload) (n : CommandName) :
    (readPayload t l p n).sender = some l := by
  cases n <;> rfl

/-- The three tests of R158 pass a frame with a known code and a good frame check. -/
theorem frameRefusal_none {f : Frame} (hedges : f.edges = 96) (hcheck : f.check = frameCheck f.body)
    (hcode : (commandOfCode f.code).isSome = true) : frameRefusal f = none := by
  obtain ⟨n, hn⟩ := Option.isSome_iff_exists.mp hcode
  simp [frameRefusal, judgeFrame, hedges, hcheck, hn]

/-- The codes of section 9.5 lie in three ranges. -/
theorem commandOfCode_isSome (code : Byte) : (commandOfCode code).isSome = true ↔
    ((1 ≤ code.toNat ∧ code.toNat ≤ 0x0C) ∨ (0x10 ≤ code.toNat ∧ code.toNat ≤ 0x14)
      ∨ (0x20 ≤ code.toNat ∧ code.toNat ≤ 0x2E)) := by
  have hall : ∀ code : Byte, (commandOfCode code).isSome =
      decide ((1 ≤ code.toNat ∧ code.toNat ≤ 0x0C) ∨ (0x10 ≤ code.toNat ∧ code.toNat ≤ 0x14)
        ∨ (0x20 ≤ code.toNat ∧ code.toNat ≤ 0x2E)) := by decide +kernel
  rw [hall code, decide_eq_true_iff]

/-- Settles O16: the tests of R158 in their order. -/
theorem refusedFrameAnswered : Obligations.RefusedFrameAnswered := by
  unfold Obligations.RefusedFrameAnswered
  intro t l f s a code known
  have hknown : (commandOfCode f.code).isSome = true ↔ known := commandOfCode_isSome f.code
  refine ⟨fun hl hedges => ?_, fun hl hedges hcheck => ?_, fun hl hedges hcheck hcode => ?_, fun hedges hcheck hcode => ?_⟩
  · exact execRefusedFrame_refused t l f s _ _ hl (by simp [frameRefusal, judgeFrame, hedges])
  · exact execRefusedFrame_refused t l f s _ _ hl (by simp [frameRefusal, judgeFrame, hedges, hcheck])
  · have hnone : commandOfCode f.code = none := by
      rw [← Option.not_isSome_iff_eq_none]
      exact mt hknown.mp hcode
    exact execRefusedFrame_refused t l f s _ _ hl (by simp [frameRefusal, judgeFrame, hedges, hcheck, hnone])
  · have hpass := frameRefusal_none hedges hcheck (hknown.mpr hcode)
    rw [exec_eq_runCarried (readFrame_carried (t := t) (l := l) hpass).1]
    exact execRefusedFrame_passed t l f s hpass

/-! ### A port that turns a frame away (R155, R158) -/

/-- A command whose code lies in the range of the other kind of link is one the link may not carry (section 9.5). -/
theorem not_permitted {n : CommandName} {l : Link}
    (h : (0x10 ≤ (commandCode n).toNat ∧ (commandCode n).toNat ≤ 0x14 ∧ l = .supervisor)
      ∨ (0x20 ≤ (commandCode n).toNat ∧ l ≠ .supervisor)) : permitted n l = false := by
  revert h
  cases n <;> cases l <;> decide

/-- The bits of a response in order: status, echo, data, frame check. -/
theorem response_bits (r : Response) (n : Nat) :
    (n < 8 → r.bits.getMsbD n = r.status.code.getMsbD n) ∧ (8 ≤ n → n < 16 → r.bits.getMsbD n = r.echo.getMsbD (n - 8))
      ∧ (16 ≤ n → n < 88 → r.bits.getMsbD n = r.data.getMsbD (n - 16))
      ∧ (88 ≤ n → n < 96 → r.bits.getMsbD n = r.check.getMsbD (n - 88)) ∧ (96 ≤ n → r.bits.getMsbD n = false) := by
  have hbits : r.bits.getMsbD n = if 88 ≤ n then r.check.getMsbD (n - 88) else if 16 ≤ n then r.data.getMsbD (n - 16)
      else if 8 ≤ n then r.echo.getMsbD (n - 8) else r.status.code.getMsbD n := by
    simp only [Response.bits, BitVec.getMsbD_append]
  rw [hbits]
  refine ⟨fun h => ?_, fun h h' => ?_, fun h h' => ?_, fun h h' => ?_, fun h => ?_⟩
  · rw [if_neg (by omega), if_neg (by omega), if_neg (by omega)]
  · rw [if_neg (by omega), if_neg (by omega), if_pos h]
  · rw [if_neg (by omega), if_pos h]
  · rw [if_pos h]
  · rw [if_pos (by omega)]
    exact BitVec.getMsbD_of_ge _ _ (by omega)

/-- A frame on a port that waits for SEL_N to rise is ignored (R155). -/
theorem exec_ignored {c : Instr} {t : Time} {l : Link} (htaken : c.takenAt = some t) (hsender : c.sender = some l) {s : State}
    (h : ((s.arrive t).links.get l).ignoring = true) :
    exec c s = .next ((s.arrive t).setLink l { (s.arrive t).links.get l with ignoring := false }) := by
  have hcarried {c : Instr} {np : CommandName × Payload} (hc : writePayload c = some np) (htaken : c.takenAt = some t)
      (hsender : c.sender = some l) :
      runCarried c s = .next ((s.arrive t).setLink l { (s.arrive t).links.get l with ignoring := false }) := by
    obtain ⟨act, hact⟩ := runCarried_onFrame (n := np.1) (p := np.2) hc htaken hsender s
    rw [hact, onFrame_ignored s t l np.1 act h]
  cases hw : writePayload c with
  | some np =>
    rw [exec_eq_runCarried (by rw [hw]; rfl)]
    exact hcarried hw htaken hsender
  | none =>
    cases c
    case refusedFrame f =>
      cases htaken
      cases hsender
      cases hf : frameRefusal f with
      | some x => simp [exec, execRefusedFrame, hf, h]
      | none =>
        obtain ⟨hsome, hread⟩ := readFrame_carried (t := t) (l := l) hf
        obtain ⟨np, hnp⟩ := Option.isSome_iff_exists.mp hsome
        refine (execRefusedFrame_passed t l f s hf).trans (hcarried hnp hread ?_)
        unfold readFrame
        split
        · exact readPayload_sender t l _ _
        · rfl
    case powerOnReset | crankEdge | camEdge | stallExpiry | peakEdge | stageFaultAssertion | stageFaultNegation
      | startDecision | endOfPulse | peakDeadline | recoveryEnd | takePlace | takeAmend | takeWithdraw => cases hsender
    all_goals cases hw

/-- Settles O15: the bits of the response on SDO, and the two ways a port turns a frame away. -/
theorem linkPortTurnsAway : Obligations.LinkPortTurnsAway := by
  unfold Obligations.LinkPortTurnsAway
  refine ⟨fun s l => ⟨rfl, fun hl n => ?_⟩, fun c t l s htaken hsender => ⟨exec_ignored htaken hsender, fun n p hw hl hrange => ?_⟩⟩
  · have hsdo : s.sdo l (some n) = some ((s.links.get l).response.bits.getMsbD n) := by
      unfold sdo
      dsimp only
      rw [if_neg (by simp [hl])]
    obtain ⟨h8, h16, h88, h96, hpast⟩ := response_bits (s.links.get l).response n
    rw [hsdo]
    exact ⟨fun h => by rw [h8 h], fun h h' => by rw [h16 h h'], fun h h' => by rw [h88 h h'], fun h h' => by rw [h96 h h'],
      fun h => by rw [hpast h]⟩
  · obtain ⟨act, hact⟩ := runCarried_onFrame hw htaken hsender s
    rw [exec_eq_runCarried (by rw [hw]; rfl), hact, onFrame_refused s t l n act hl (not_permitted hrange)]

/-! ### The frame check finds one flipped bit (R157) -/

/-- A shift of the frame check undone: the low bit tells whether 97h was combined. -/
def unshift (v : Byte) : Byte :=
  if v.getLsbD 0 then ((v ^^^ 0x97#8) >>> 1) ||| 0x80#8 else v >>> 1

theorem unshift_checkShift : ∀ v : Byte, unshift (checkShift v) = v := by decide +kernel

theorem checkShift_injective : Function.Injective checkShift := Function.LeftInverse.injective unshift_checkShift

theorem checkByte_eq_iff (v v' b b' : Byte) : checkByte v b = checkByte v' b' ↔ v ^^^ b = v' ^^^ b' := by
  simp only [checkByte, checkShift_injective.eq_iff]

/-- The bytes of a body as they are taken, from the value before them. -/
def checkFrom (body : Body) (v : Byte) (is : List Nat) : Byte := is.foldl (fun v i => checkByte v (bodyByte body i)) v

/-- From different values the same bytes give different values. -/
theorem checkFrom_ne {b b' : Body} {v v' : Byte} (h : v ≠ v') {is : List Nat} (his : ∀ i ∈ is, bodyByte b i = bodyByte b' i) :
    checkFrom b v is ≠ checkFrom b' v' is := by
  induction is generalizing v v' with
  | nil => exact h
  | cons i is ih =>
    refine ih (fun heq => h ?_) fun j hj => his j (List.mem_cons_of_mem i hj)
    rw [checkByte_eq_iff, his i List.mem_cons_self] at heq
    exact (BitVec.xor_left_inj _).mp heq

/-- One byte that differs among those taken gives different values. -/
theorem checkFrom_ne_of_byte {b b' : Body} {k : Nat} (hk : bodyByte b k ≠ bodyByte b' k) {is : List Nat}
    (hother : ∀ i ∈ is, i ≠ k → bodyByte b i = bodyByte b' i) (hnodup : is.Nodup) (hmem : k ∈ is) (v : Byte) :
    checkFrom b v is ≠ checkFrom b' v is := by
  induction is generalizing v with
  | nil => cases hmem
  | cons i is ih =>
    obtain ⟨hi, hnodup⟩ := List.nodup_cons.mp hnodup
    have hrest : ∀ j ∈ is, j ≠ k → bodyByte b j = bodyByte b' j := fun j hj => hother j (List.mem_cons_of_mem i hj)
    by_cases hik : i = k
    · subst hik
      have hstep : checkByte v (bodyByte b i) ≠ checkByte v (bodyByte b' i) := fun heq =>
        hk ((BitVec.xor_right_inj v).mp ((checkByte_eq_iff ..).mp heq))
      exact checkFrom_ne hstep fun j hj => hrest j hj fun h => hi (h ▸ hj)
    · have hstep : checkFrom b' v (i :: is) = checkFrom b' (checkByte v (bodyByte b i)) is := by
        rw [hother i List.mem_cons_self hik]
        rfl
      rw [hstep]
      exact ih hrest hnodup ((List.mem_cons.mp hmem).resolve_left (Ne.symm hik)) _

/-- One bit of one byte of a body with the bit `j` flipped. -/
theorem bodyByte_flip (b : Body) {j i m : Nat} (hj : j < 88) (hi : i ≤ 10) (hm : m < 8) :
    (bodyByte (b ^^^ (1#88 <<< j)) i).getLsbD m = ((bodyByte b i).getLsbD m ^^ decide (80 - 8 * i + m = j)) := by
  simp only [bodyByte, BitVec.getLsbD_extractLsb', BitVec.getLsbD_xor, BitVec.getLsbD_shiftLeft, BitVec.getLsbD_one]
  have hin : 80 - 8 * i + m < 88 := by omega
  rcases lt_trichotomy (80 - 8 * i + m) j with hlt | heq | hgt
  · simp [hm, hlt, hlt.ne]
  · simp [hm, heq, hj]
  · have hne : ¬ (80 - 8 * i + m - j = 0) := by omega
    simp [hm, hgt.ne', hne]

/-- A body with one flipped bit has another frame check (R157). -/
theorem frameCheck_flip (b : Body) {j : Nat} (hj : j < 88) : frameCheck (b ^^^ (1#88 <<< j)) ≠ frameCheck b := by
  refine checkFrom_ne_of_byte (k := 10 - j / 8) (fun heq => ?_) (is := List.range 11) (fun i hi hne => ?_) (by decide)
    (List.mem_range.mpr (by omega)) _
  · have hbit := congrArg (fun x => x.getLsbD (j % 8)) heq
    have hplace : 80 - 8 * (10 - j / 8) + j % 8 = j := by omega
    rw [bodyByte_flip b hj (by omega) (Nat.mod_lt j (by decide)), hplace] at hbit
    simp at hbit
  · have hle : i < 11 := List.mem_range.mp hi
    refine BitVec.eq_of_getLsbD_eq fun m hm => ?_
    rw [bodyByte_flip b hj (by omega) hm]
    have hplace : 80 - 8 * i + m ≠ j := by omega
    simp [hplace]

/-! ### The fields of a frame (R161, R163) -/

theorem field_eq {p : Payload} {at' w : Nat} {x : BitVec w} (h : p.toNat / 2 ^ (80 - at' - w) % 2 ^ w = x.toNat) : p.field at' w = x := by
  apply BitVec.eq_of_toNat_eq
  rw [Payload.field, BitVec.extractLsb'_toNat, Nat.shiftRight_eq_div_pow, h]

theorem fields_byte_byte (x y : Byte) : Payload.field (x ++ y ++ 0#64) 0 8 = x ∧ Payload.field (x ++ y ++ 0#64) 8 8 = y := by
  have hx := x.isLt
  have hy := y.isLt
  refine ⟨field_eq ?_, field_eq ?_⟩ <;>
  · simp only [toNat_append_add]
    simp
    omega

theorem fields_word (x : Word16) : Payload.field (x ++ 0#64) 0 16 = x := by
  refine field_eq ?_
  have hx := x.isLt
  simp only [toNat_append_add]
  simp
  omega

theorem fields_byte_word_byte (x : Byte) (y : Word16) (z : Byte) : Payload.field (x ++ y ++ z ++ 0#48) 0 8 = x
    ∧ Payload.field (x ++ y ++ z ++ 0#48) 8 16 = y ∧ Payload.field (x ++ y ++ z ++ 0#48) 24 8 = z := by
  have hx := x.isLt
  have hy := y.isLt
  have hz := z.isLt
  refine ⟨field_eq ?_, field_eq ?_, field_eq ?_⟩ <;>
  · simp only [toNat_append_add]
    simp
    omega

theorem fields_byte_word (x : Byte) (y : Word16) : Payload.field (x ++ y ++ 0#56) 0 8 = x
    ∧ Payload.field (x ++ y ++ 0#56) 8 16 = y := by
  have hx := x.isLt
  have hy := y.isLt
  refine ⟨field_eq ?_, field_eq ?_⟩ <;>
  · simp only [toNat_append_add]
    simp
    omega

theorem fields_byte_data (x : Byte) (y : Data) : Payload.field (x ++ y) 0 8 = x ∧ Payload.field (x ++ y) 8 72 = y := by
  have hx := x.isLt
  have hy := y.isLt
  refine ⟨field_eq ?_, field_eq ?_⟩ <;>
  · simp only [toNat_append_add]
    simp
    omega

theorem flag_eq {p : Payload} {i k : Nat} {b : Bool} (h : p.toNat / 2 ^ (80 - 8 * i + k) % 2 = b.toNat) : p.flag i k = b := by
  rw [Payload.flag, ← BitVec.testBit_toNat, Nat.testBit_eq_decide_div_mod_eq, h]
  cases b <;> rfl

/-- The layout of a PLACE (R163). -/
theorem readPayload_place {t : Time} {l : Link} {r : PlaceRequest} {p : Payload} (h : writePayload (.place t l r) = some (.place, p)) :
    readPayload t l p .place = .place t l r := by
  obtain ⟨cylinder, kind, report, stampPresent, offset, duration, priority, repeats, tag, stamp⟩ := r
  have hvalue := congrArg (fun x => x.map fun y => y.2.toNat) h
  simp only [writePayload, Option.map_some, toNat_append_add] at hvalue
  simp at hvalue
  have hcylinder := cylinder.isLt
  have hkind := kind.isLt
  have hoffset := offset.isLt
  have hduration := duration.isLt
  have hpriority := priority.isLt
  have hrepeats := repeats.isLt
  have htag := tag.isLt
  have hstamp := stamp.isLt
  have hreport := report.toNat_le
  have hpresent := stampPresent.toNat_le
  rw [readPayload, field_eq (p := p) (x := cylinder) (by omega), field_eq (p := p) (x := kind) (by omega),
    flag_eq (p := p) (b := report) (by omega), flag_eq (p := p) (b := stampPresent) (by omega),
    field_eq (p := p) (x := offset) (by omega), field_eq (p := p) (x := duration) (by omega),
    field_eq (p := p) (x := priority) (by omega), field_eq (p := p) (x := repeats) (by omega),
    field_eq (p := p) (x := tag) (by omega), field_eq (p := p) (x := stamp) (by omega)]

/-- The layout of an AMEND (R163). -/
theorem readPayload_amend {t : Time} {l : Link} {r : AmendRequest} {p : Payload} (h : writePayload (.amend t l r) = some (.amend, p)) :
    readPayload t l p .amend = .amend t l r := by
  obtain ⟨slot, tag, offsetPresent, durationPresent, offset, duration⟩ := r
  have hvalue := congrArg (fun x => x.map fun y => y.2.toNat) h
  simp only [writePayload, Option.map_some, toNat_append_add] at hvalue
  simp at hvalue
  have hslot := slot.isLt
  have htag := tag.isLt
  have hoffset := offset.isLt
  have hduration := duration.isLt
  have hoffsetPresent := offsetPresent.toNat_le
  have hdurationPresent := durationPresent.toNat_le
  rw [readPayload, field_eq (p := p) (x := slot) (by omega), field_eq (p := p) (x := tag) (by omega),
    flag_eq (p := p) (b := offsetPresent) (by omega), flag_eq (p := p) (b := durationPresent) (by omega),
    field_eq (p := p) (x := offset) (by omega), field_eq (p := p) (x := duration) (by omega)]

/-- The fields of a command are read as they were written (R161, R163). -/
theorem readPayload_writePayload {c : Instr} {t : Time} {l : Link} {n : CommandName} {p : Payload} (htaken : c.takenAt = some t)
    (hsender : c.sender = some l) (h : writePayload c = some (n, p)) : readPayload t l p n = c := by
  cases c
  case powerOnReset | crankEdge | camEdge | stallExpiry | peakEdge | stageFaultAssertion | stageFaultNegation | startDecision
    | endOfPulse | peakDeadline | recoveryEnd | refusedFrame | takePlace | takeAmend | takeWithdraw => cases h
  case place r =>
    cases htaken
    cases hsender
    obtain rfl : CommandName.place = n := congrArg Prod.fst (Option.some.inj h)
    exact readPayload_place h
  case amend r =>
    cases htaken
    cases hsender
    obtain rfl : CommandName.amend = n := congrArg Prod.fst (Option.some.inj h)
    exact readPayload_amend h
  all_goals
    cases h
    cases htaken
    cases hsender
    simp only [readPayload, fields_byte_byte, fields_word, fields_byte_word_byte, fields_byte_word, fields_byte_data]

theorem commandOfCode_commandCode (n : CommandName) : commandOfCode (commandCode n) = some n := by
  cases n <;> decide

/-- The parts of a frame's bits. -/
theorem frameOf_parts (n : CommandName) (p : Payload) : (frameOf n p).code = commandCode n ∧ (frameOf n p).payload = p
    ∧ (frameOf n p).body = commandCode n ++ p ∧ (frameOf n p).check = frameCheck (commandCode n ++ p) := by
  have hvalue : (frameOf n p).bits.toNat
      = ((commandCode n).toNat * 2 ^ 80 + p.toNat) * 2 ^ 8 + (frameCheck (commandCode n ++ p)).toNat := by
    simp only [frameOf, toNat_append_add]
  have hbody : (commandCode n ++ p).toNat = (commandCode n).toNat * 2 ^ 80 + p.toNat := toNat_append_add _ _
  have hcode := (commandCode n).isLt
  have hpayload := p.isLt
  have hcheck := (frameCheck (commandCode n ++ p)).isLt
  refine ⟨?_, ?_, ?_, ?_⟩ <;>
  · apply BitVec.eq_of_toNat_eq
    simp only [Frame.code, Frame.payload, Frame.body, Frame.check, BitVec.extractLsb'_toNat, Nat.shiftRight_eq_div_pow, hvalue, hbody]
    omega

/-- Settles O13: the frame passes the tests and its fields are read back. -/
theorem frameRoundTrip : Obligations.FrameRoundTrip := by
  intro c t l f htaken hsender hf
  obtain ⟨⟨n, p⟩, hw, rfl⟩ := Option.map_eq_some_iff.mp hf
  obtain ⟨hcode, hpayload, hbody, hcheck⟩ := frameOf_parts n p
  have hedges : (frameOf n p).edges = 96 := rfl
  have hjudge : judgeFrame (frameOf n p) = .names n := by
    simp [judgeFrame, hedges, hcode, hbody, hcheck, commandOfCode_commandCode]
  rw [readFrame, hjudge]
  dsimp only
  rw [hpayload]
  exact readPayload_writePayload htaken hsender hw

/-- A frame that names a command has 96 edges and a good frame check. -/
theorem judgeFrame_names {f : Frame} {n : CommandName} (h : judgeFrame f = .names n) : f.edges = 96 ∧ f.check = frameCheck f.body := by
  unfold judgeFrame at h
  split_ifs at h with hedges hcheck
  · exact ⟨by simpa using hedges, by simpa using hcheck⟩

theorem judgeFrame_badCheck {f : Frame} (hedges : f.edges = 96) (hcheck : f.check ≠ frameCheck f.body) : judgeFrame f = .badCheck := by
  simp [judgeFrame, hedges, hcheck]

theorem getLsbD_one_shiftLeft {w k : Nat} (hk : k < w) (m : Nat) : (1#w <<< k).getLsbD m = decide (m = k) := by
  rw [← BitVec.twoPow_eq, BitVec.getLsbD_twoPow]
  by_cases h : m = k
  · simp [h, hk]
  · simp [h, Ne.symm h]

/-- Settles O14: a flipped bit of byte 11 changes the frame check as sent, any other flipped bit the one computed. -/
theorem oneFlippedBitRefused : Obligations.OneFlippedBitRefused := by
  intro f n k hf hk
  obtain ⟨hedges, hcheck⟩ := judgeFrame_names hf
  refine judgeFrame_badCheck hedges ?_
  have hextract (start len : Nat) : (f.bits ^^^ (1#96 <<< k)).extractLsb' start len
      = f.bits.extractLsb' start len ^^^ (1#96 <<< k).extractLsb' start len := BitVec.extractLsb'_xor
  by_cases hlow : k < 8
  · have hbody : (1#96 <<< k).extractLsb' 8 88 = 0#88 := BitVec.eq_of_getLsbD_eq fun m hm => by
      have hne : 8 + m ≠ k := by omega
      simp only [BitVec.getLsbD_extractLsb', getLsbD_one_shiftLeft hk, hne, decide_false, Bool.and_false, BitVec.getLsbD_zero]
    have hflip : (1#96 <<< k).extractLsb' 0 8 ≠ 0#8 := fun h => by
      have hbit := congrArg (fun x => x.getLsbD k) h
      simp only [BitVec.getLsbD_extractLsb', Nat.zero_add, getLsbD_one_shiftLeft hk, hlow, BitVec.getLsbD_zero] at hbit
      cases hbit
    simp only [Frame.check, Frame.body, hextract, hbody, BitVec.xor_zero] at hcheck ⊢
    rw [← hcheck]
    simpa using hflip
  · have hbody : (1#96 <<< k).extractLsb' 8 88 = 1#88 <<< (k - 8) := BitVec.eq_of_getLsbD_eq fun m hm => by
      have hplace : 8 + m = k ↔ m = k - 8 := by omega
      simp only [BitVec.getLsbD_extractLsb', getLsbD_one_shiftLeft hk, getLsbD_one_shiftLeft (show k - 8 < 88 by omega), hm,
        decide_true, Bool.true_and, hplace]
    have hsame : (1#96 <<< k).extractLsb' 0 8 = 0#8 := BitVec.eq_of_getLsbD_eq fun m hm => by
      have hne : 0 + m ≠ k := by omega
      simp only [BitVec.getLsbD_extractLsb', getLsbD_one_shiftLeft hk, hne, decide_false, Bool.and_false, BitVec.getLsbD_zero]
    simp only [Frame.check, Frame.body, hextract, hbody, hsame, BitVec.xor_zero] at hcheck ⊢
    rw [hcheck]
    exact (frameCheck_flip _ (by omega)).symm

end Sys2Proof.Machine
end

section
/-! PROOF. The immediate commands on the mark units (O27), the request ports (O28, O29), the limits (O36), the fault unit (O40), and the answer
logs (O60). -/

namespace Sys2Proof.Machine

open State

/-! ### Response data of one to five bytes (R162) -/

theorem data_byte (x : Byte) : dataOf [x] = x ++ 0#64 := by
  have hx := x.isLt
  refine dataOf_eq ?_
  simp only [toNat_append_add]
  simp

theorem data_two_bytes (x y : Byte) : dataOf [x, y] = x ++ y ++ 0#56 := by
  have hx := x.isLt
  have hy := y.isLt
  refine dataOf_eq ?_
  simp only [toNat_append_add]
  simp
  omega

theorem data_three_bytes (x y z : Byte) : dataOf [x, y, z] = x ++ y ++ z ++ 0#48 := by
  have hx := x.isLt
  have hy := y.isLt
  have hz := z.isLt
  refine dataOf_eq ?_
  simp only [toNat_append_add]
  simp
  omega

theorem data_five_bytes (x y z u v : Byte) : dataOf [x, y, z, u, v] = x ++ y ++ z ++ u ++ v ++ 0#32 := by
  have hx := x.isLt
  have hy := y.isLt
  have hz := z.isLt
  have hu := u.isLt
  have hv := v.isLt
  refine dataOf_eq ?_
  simp only [toNat_append_add]
  simp
  omega

theorem data_byte_word (x : Byte) (n : Nat) : dataOf (x :: bytes2 n) = x ++ BitVec.ofNat 16 n ++ 0#48 := by
  have hx := x.isLt
  refine dataOf_eq ?_
  simp only [toNat_append_add]
  simp [toNat_byte, bytes2]
  omega

/-! ### The mark units (R20, R21) -/

theorem markModeOf_of_ne {mode : Byte} (h1 : mode ≠ 1) (h2 : mode ≠ 2) : markModeOf mode = none := by
  rw [markModeOf, if_neg h1, if_neg h2]

theorem markModeOf_of_eq {mode : Byte} (h : mode = 1 ∨ mode = 2) : markModeOf mode = some (if mode = 1 then .once else .every) := by
  rcases h with rfl | rfl <;> rfl

theorem freeMark_eq_none {s : State} (h : ∀ i, s.marks.get i ≠ none) : s.freeMark = none :=
  List.find?_eq_none.mpr fun i _ hi => h i (Option.isNone_iff_eq_none.mp hi)

theorem freeMark_eq_some {s : State} {i : MarkIndex} (hfree : s.marks.get i = none) (hbelow : ∀ j, j < i → s.marks.get j ≠ none) :
    s.freeMark = some i := by
  have hplace : ∀ i : MarkIndex, allMarks[i.val]'i.isLt = i := by decide
  refine List.find?_eq_some_iff_getElem.mpr ⟨by simp [hfree], i.val, i.isLt, hplace i, fun j hj => ?_⟩
  have hlt : j < 8 := hj.trans i.isLt
  have hset := hbelow ⟨j, hlt⟩ hj
  have hnone : (s.marks.get ⟨j, hlt⟩).isNone = false := by simpa using Option.isSome_iff_ne_none.mpr hset
  exact congrArg (!·) ((congrArg (fun i => (s.marks.get i).isNone) (hplace ⟨j, hlt⟩)).trans hnone)

theorem markOf_of_gt {n : Nat} (h : 7 < n) : markOf n = none := dif_neg (by omega)

theorem markOf_of_eq {n : Nat} {i : MarkIndex} (h : i.val = n) : markOf n = some i := h ▸ dif_pos i.isLt

theorem setMark_refused {s : State} {l : Link} {mask mode : Byte} {offset : Word16}
    (h : mask = 0 ∨ offset.toInt < -5760 ∨ 5759 < offset.toInt ∨ (mode ≠ 1 ∧ mode ≠ 2)) :
    s.setMark l mask offset mode = (s, .badArgument, 0) := by
  unfold setMark
  split
  · rfl
  · next m hm =>
    have hmode : ¬ (mode ≠ 1 ∧ mode ≠ 2) := fun h => by simp [markModeOf_of_ne h.1 h.2] at hm
    have hbad : mask = 0 ∨ offset.toInt < -5760 ∨ 5759 < offset.toInt := by tauto
    rw [if_pos hbad]
    rfl

theorem setMark_taken {s : State} {l : Link} {mask mode : Byte} {offset : Word16}
    (h : ¬ (mask = 0 ∨ offset.toInt < -5760 ∨ 5759 < offset.toInt ∨ (mode ≠ 1 ∧ mode ≠ 2))) :
    s.setMark l mask offset mode = match s.freeMark with
      | none => (s, .noMarkFree, 0)
      | some i => (s.setMarks (s.marks.set i (some
          { owner := l, mask := mask, offset := offset.toInt, mode := if mode = 1 then .once else .every })), .ok,
          BitVec.ofNat 8 i.val ++ 0#64) := by
  have hmode : mode = 1 ∨ mode = 2 := by tauto
  have hgood : ¬ (mask = 0 ∨ offset.toInt < -5760 ∨ 5759 < offset.toInt) := by tauto
  unfold setMark
  rw [markModeOf_of_eq hmode]
  dsimp only
  rw [if_neg hgood]
  cases s.freeMark with
  | none => rfl
  | some i => simp only [← data_byte]; rfl

/-- Settles O27. -/
theorem setAndClearMark : Obligations.SetAndClearMark := by
  unfold Obligations.SetAndClearMark
  intro t l mask mode unit offset s a bad hl
  have hset {u : State} {x : Status} {d : Data} (h : a.setMark l mask offset mode = (u, x, d)) :
      exec (.setMark t l mask offset mode) s = .next (u.respond l x 0x0B d) :=
    next_onFrame (n := .setMark) (act := fun s => s.setMark l mask offset mode) hl rfl h
  have hclear {u : State} {x : Status} (h : a.clearMark l unit = (u, x, 0)) :
      exec (.clearMark t l unit) s = .next (u.respond l x 0x0C 0) :=
    next_onFrame (n := .clearMark) (act := fun s => s.clearMark l unit) hl rfl h
  refine ⟨fun hbad => hset (setMark_refused hbad), fun hgood hnone => hset ?_, fun i hgood hfree hbelow => hset ?_,
    fun hunit => hclear ?_, fun i hi => ⟨fun hother => hclear ?_, fun u hu hown => hclear ?_⟩⟩
  · rw [setMark_taken hgood, freeMark_eq_none hnone]
  · rw [setMark_taken hgood, freeMark_eq_some hfree hbelow]
  · rw [clearMark, markOf_of_gt hunit]
    rfl
  · rw [clearMark, markOf_of_eq hi]
    dsimp only
    split
    · rfl
    · next u hu => rw [if_neg (hother u hu)]; rfl
  · rw [clearMark, markOf_of_eq hi]
    dsimp only
    rw [hu]
    exact if_pos hown

/-! ### The request ports (R63, R64, R65, R71) -/

theorem setPort_get (s : State) (o : Owner) (p : RequestPort) : (s.setPort o p).staging.get o = p := by
  cases o <;> rfl

/-- A code of 0 or above the last is none of the codes. -/
theorem code_ne {x : Byte} {last k : Nat} (h : x = 0 ∨ last < x.toNat) (hlast : last < 256) (h1 : 1 ≤ k) (hk : k ≤ last) :
    x ≠ BitVec.ofNat 8 k := by
  rintro rfl
  have hvalue : (BitVec.ofNat 8 k).toNat = k := Nat.mod_eq_of_lt (by omega)
  rcases h with h | h
  · have := congrArg BitVec.toNat h
    rw [hvalue] at this
    simp at this
    omega
  · omega

theorem portStateOf_of_bad {state : Byte} (h : state = 0 ∨ 4 < state.toNat) : portStateOf state = none := by
  have hne {k : Nat} := code_ne (k := k) h (by decide)
  have h1 : state ≠ 1 := hne (by decide) (by decide)
  have h2 : state ≠ 2 := hne (by decide) (by decide)
  have h3 : state ≠ 3 := hne (by decide) (by decide)
  have h4 : state ≠ 4 := hne (by decide) (by decide)
  rw [portStateOf, if_neg h1, if_neg h2, if_neg h3, if_neg h4]

/-- A code of 1 to 4 names a port state or KEEP. -/
theorem portStateOf_of_good {state : Byte} (h : 1 ≤ state.toNat) (h' : state.toNat ≤ 4) (kept : PortState) :
    ∃ named, portStateOf state = some named ∧ named.getD kept
      = if state = 1 then .quiet else if state = 2 then .hold else if state = 3 then .live else kept := by
  obtain rfl | rfl | rfl | rfl : state = 1 ∨ state = 2 ∨ state = 3 ∨ state = 4 := by
    simp only [← BitVec.toNat_inj]
    simp
    omega
  all_goals exact ⟨_, rfl, rfl⟩

/-- Settles O28. -/
theorem portStateAndClearStaging : Obligations.PortStateAndClearStaging := by
  unfold Obligations.PortStateAndClearStaging
  intro t o state watermark s a p q hl
  have hset {u : State} {x : Status} {d : Data} (h : a.setPortState o state watermark = (u, x, d)) :
      exec (.setPortState t o.link state watermark) s = .next (u.respond o.link x 0x10 d) := by
    refine next_onFrame (n := .setPortState) (act := fun s => s.onRequestLink o.link fun o => s.setPortState o state watermark)
      hl (by cases o <;> rfl) ?_
    simp only [onRequestLink, requestLink_link]
    exact h
  refine ⟨fun hbad => hset ?_, fun h1 h4 hw => hset ?_, ?_⟩
  · unfold setPortState
    split
    · rfl
    · next named hnamed =>
      have hdeep : Config.stagingDepth < watermark.toNat := by
        rcases hbad with h | h | h
        · simp [portStateOf_of_bad (.inl h)] at hnamed
        · simp [portStateOf_of_bad (.inr h)] at hnamed
        · exact h
      exact if_pos hdeep
  · obtain ⟨named, hnamed, hstate⟩ := portStateOf_of_good h1 h4 p.state
    have hdeep : ¬ Config.stagingDepth < watermark.toNat := Nat.not_lt.mpr hw
    unfold setPortState
    rw [hnamed]
    dsimp only
    rw [if_neg hdeep, hstate, ← data_three_bytes]
    simp only [setPort_get, stagingCount]
    rfl
  · refine next_onFrame (n := .clearStaging) (act := fun s => s.onRequestLink o.link fun o => s.clearStaging o)
      hl (by cases o <;> rfl) ?_
    simp only [onRequestLink, requestLink_link, ← data_byte]
    rfl

/-- Settles O29. -/
theorem stagingIntake : Obligations.StagingIntake := by
  unfold Obligations.StagingIntake
  intro t o x s a p c code hl
  have htake {u : State} {st : Status} {d : Data} (h : a.intake o x = (u, st, d)) :
      exec c s = .next (u.respond o.link st code d) := by
    cases x with
    | place r =>
      refine next_onFrame (n := .place) (act := fun s => s.onRequestLink o.link fun o => s.intake o (.place r)) hl (by cases o <;> rfl) ?_
      simpa only [onRequestLink, requestLink_link] using h
    | amend r =>
      refine next_onFrame (n := .amend) (act := fun s => s.onRequestLink o.link fun o => s.intake o (.amend r)) hl (by cases o <;> rfl) ?_
      simpa only [onRequestLink, requestLink_link] using h
    | withdraw r =>
      refine next_onFrame (n := .withdraw) (act := fun s => s.onRequestLink o.link fun o => s.intake o (.withdraw r)) hl
        (by cases o <;> rfl) ?_
      simpa only [onRequestLink, requestLink_link] using h
  refine ⟨fun hquiet => htake ?_, fun hopen hroom => htake ?_, fun hopen hfull => htake ?_⟩
  · rw [intake, if_pos hquiet, ← data_byte]
    rfl
  · have hcount : a.stagingCount o < Config.stagingDepth := hroom
    rw [intake, if_neg hopen, if_pos hcount, ← data_byte]
    simp only [stagingCount, setPort_get, List.length_append]
    rfl
  · have hcount : ¬ a.stagingCount o < Config.stagingDepth := Nat.not_lt.mpr hfull
    rw [intake, if_neg hopen, if_neg hcount, ← data_byte]
    rfl

/-! ### The limits (R125, R126, R132) -/

theorem limitItemOf_of_bad {item : Byte} (h : item = 0 ∨ 5 < item.toNat) : limitItemOf item = none := by
  have hne {k : Nat} := code_ne (k := k) h (by decide)
  have h1 : item ≠ 1 := hne (by decide) (by decide)
  have h2 : item ≠ 2 := hne (by decide) (by decide)
  have h3 : item ≠ 3 := hne (by decide) (by decide)
  have h4 : item ≠ 4 := hne (by decide) (by decide)
  have h5 : item ≠ 5 := hne (by decide) (by decide)
  rw [limitItemOf, if_neg h1, if_neg h2, if_neg h3, if_neg h4, if_neg h5]

/-- A value brought into a range. -/
theorem clamp_eq {lo hi : Nat} (h : lo ≤ hi) (v : Nat) : max lo (min hi v) = if v < lo then lo else if hi < v then hi else v := by
  split_ifs <;> omega

theorem setLimit_known {s : State} {item : Byte} {value : Word16} {i : LimitItem} (h : limitItemOf item = some i)
    (hcode : byte i.code = item) (hrange : i.range.1 ≤ i.range.2) :
    let x := if value.toNat < i.range.1 then i.range.1 else if i.range.2 < value.toNat then i.range.2 else value.toNat
    s.setLimit item value = (s.setLimits (s.limits.write i x), if x = value.toNat then .ok else .clamped,
      item ++ BitVec.ofNat 16 x ++ 0#48) := by
  intro x
  have hx : i.clamp value.toNat = x := clamp_eq hrange _
  rw [setLimit, h]
  dsimp only
  rw [hx, data_byte_word, hcode]

/-- Settles O36. -/
theorem setLimitAndEnableMask : Obligations.SetLimitAndEnableMask := by
  unfold Obligations.SetLimitAndEnableMask
  refine ⟨?_, ?_⟩
  · intro t item value s a v within written hl
    have hset {item : Byte} {u : State} {x : Status} {d : Data} (h : a.setLimit item value = (u, x, d)) :
        exec (.setLimit t .supervisor item value) s = .next (u.respond .supervisor x 0x20 d) :=
      next_onFrame (n := .setLimit) (act := fun s => s.setLimit item value) hl rfl h
    refine ⟨hset (setLimit_known (i := .overspeedLimit) rfl rfl (by decide)), hset (setLimit_known (i := .budget) rfl rfl (by decide)),
      hset (setLimit_known (i := .fuelCeiling) rfl rfl (by decide)), hset (setLimit_known (i := .thermalCeiling) rfl rfl (by decide)),
      hset (setLimit_known (i := .reserve) rfl rfl (by decide)), fun hbad => hset ?_⟩
    rw [setLimit, limitItemOf_of_bad hbad]
    rfl
  · intro t mask s a hl
    refine ⟨a.table.map fun c e => if inMask mask c then { e with streak := 0 } else e, fun c => ?_, ?_⟩
    · simp [Eight.get_map, inMask]
    · refine next_onFrame (n := .setEnableMask) (act := fun s => s.setEnableMask mask) hl rfl ?_
      rw [setEnableMask, data_byte]
      rfl

/-! ### The fault unit's reads (R143, R145) -/

theorem capture_data (c : Capture) :
    dataOf ([byte (c.record.kind.code * 16 + cylinderItem c.record.cylinder), byte (slotItem c.record.slot)]
        ++ bytes2 c.record.cycle.toNat ++ bytes4 c.record.time.toNat ++ [byte c.follow])
      = (BitVec.ofNat 4 c.record.kind.code ++ BitVec.ofNat 4 (cylinderItem c.record.cylinder) ++ byte (slotItem c.record.slot)
          ++ c.record.cycle ++ c.record.time ++ BitVec.ofNat 8 c.follow : BitVec (4 + 4 + 8 + 16 + 32 + 8)) := by
  have hcode : c.record.kind.code < 16 := by cases c.record.kind <;> decide
  have hitem : cylinderItem c.record.cylinder < 16 := by
    cases c.record.cylinder with
    | none => decide
    | some x => simp only [cylinderItem, cylinderNumber]; omega
  have hcycle := c.record.cycle.isLt
  have htime := c.record.time.isLt
  refine dataOf_eq ?_
  simp only [toNat_append_add]
  simp [toNat_byte, bytes2, bytes4]
  omega

theorem captureData_eq (s : State) : s.captureData = match s.faults.capture with
    | none => 0
    | some c => BitVec.ofNat 4 c.record.kind.code
        ++ BitVec.ofNat 4 (match c.record.cylinder with | some x => cylinderNumber x | none => 0)
        ++ (match c.record.slot with | some k => BitVec.ofNat 8 k.val | none => 0xFF#8)
        ++ c.record.cycle ++ c.record.time ++ BitVec.ofNat 8 c.follow := by
  unfold captureData
  cases s.faults.capture with
  | none => rfl
  | some c =>
    have hcylinder : cylinderItem c.record.cylinder = match c.record.cylinder with | some x => cylinderNumber x | none => 0 := by
      cases c.record.cylinder <;> rfl
    refine (capture_data c).trans ?_
    rw [byte_slotItem, hcylinder]
    rfl

/-- Settles O40. -/
theorem faultUnitCommands : Obligations.FaultUnitCommands := by
  unfold Obligations.FaultUnitCommands
  intro t kinds s a left capture hl
  have hcapture : a.captureData = capture := captureData_eq a
  refine ⟨next_onFrame (n := .readFaults) (act := fun s => s.readFaults) hl rfl ?_,
    next_onFrame (n := .ackFaults) (act := fun s => s.ackFaults kinds) hl rfl ?_,
    next_onFrame (n := .readCapture) (act := fun s => s.readCapture) hl rfl ?_,
    next_onFrame (n := .clearCapture) (act := fun s => s.clearCapture) hl rfl ?_⟩
  · rw [readFaults, flags_flags_data]
  · rw [← flags_data]
    rfl
  · rw [readCapture, hcapture]
  · rw [clearCapture, hcapture]

/-! ### Sets of flags by their bits (R141, R150, R151, R152) -/

theorem ne_zero_iff_bit {w : Nat} (x : BitVec w) : (x != 0) = true ↔ ∃ i, i < w ∧ x.getLsbD i = true := by
  rw [bne_iff_ne]
  refine ⟨fun h => ?_, fun ⟨i, _, hi⟩ h => ?_⟩
  · by_contra hnone
    push Not at hnone
    exact h (BitVec.eq_of_getLsbD_eq fun i hi => by simpa using hnone i hi)
  · rw [h] at hi
    simp at hi

theorem Flag.getLsbD_mask (f : Flag) (i : Nat) : f.mask.getLsbD i = decide (i = f.bit) :=
  getLsbD_one_shiftLeft (by cases f <;> decide) i

theorem FaultKind.getLsbD_mask (k : FaultKind) (i : Nat) : k.mask.getLsbD i = decide (i = k.code - 1) :=
  getLsbD_one_shiftLeft (by cases k <;> decide) i

theorem flagIf_bit (c : Bool) (f : Flag) (i : Nat) : (flagIf c f).getLsbD i = (c && decide (i = f.bit)) := by
  cases c
  · simp [flagIf]
  · simp [flagIf, Flag.getLsbD_mask]

theorem levelFlags_bit (s : State) (l : Link) (i : Nat) : (s.levelFlags l).getLsbD i
    = (s.logFlag l && decide (i = 0) || s.stagedFlag l && decide (i = 1) || s.faultFlag l && decide (i = 2)) := by
  simp only [levelFlags, BitVec.getLsbD_or, flagIf_bit]
  rfl

theorem stagedFlag_iff (s : State) (l : Link) : s.stagedFlag l = true
    ↔ ∃ o : Owner, l = o.link ∧ (s.staging.get o).watermark ≤ (s.staging.get o).queue.length := by
  have hlink (o : Owner) : s.stagedFlag o.link = true ↔ (s.staging.get o).watermark ≤ (s.staging.get o).queue.length := by
    rw [stagedFlag, requestLink_link]
    exact decide_eq_true_iff
  refine ⟨fun h => ?_, fun ⟨o, ho, h⟩ => ho ▸ (hlink o).mpr h⟩
  cases l with
  | fuel => exact ⟨.fuel, rfl, (hlink .fuel).mp h⟩
  | thermal => exact ⟨.thermal, rfl, (hlink .thermal).mp h⟩
  | supervisor => cases h

theorem faultFlag_iff (s : State) (l : Link) : s.faultFlag l = true
    ↔ l = .supervisor ∧ ∃ i, i < 11 ∧ s.faults.pending.getLsbD i = true ∧ s.faults.mask.getLsbD i = false := by
  rw [faultFlag, Bool.and_eq_true, beq_iff_eq, ne_zero_iff_bit]
  refine and_congr_right fun _ => exists_congr fun i => and_congr_right fun hi => ?_
  simp [hi]

/-- Settles O60. -/
theorem answerLog : Obligations.AnswerLog := by
  intro s l e
  refine ⟨append_of_room s l e, append_of_full s l e, ?_, ?_, ?_, fun i hi => ?_, fun i => ?_, ?_⟩
  · rw [levelFlags_bit]
    simp [logFlag]
  · rw [levelFlags_bit, ← stagedFlag_iff]
    simp
  · rw [levelFlags_bit, ← faultFlag_iff]
    simp
  · rw [levelFlags_bit]
    have h0 : i ≠ 0 := by omega
    have h1 : i ≠ 1 := by omega
    have h2 : i ≠ 2 := by omega
    simp [h0, h1, h2]
  · rw [flags, BitVec.getLsbD_or]
  · rw [noticeLine, ne_zero_iff_bit]
    simp

end Sys2Proof.Machine
end

section
/-! PROOF. The fault unit: what a fault taken leaves (O59), the mask (O39), the lines of the power stage (O58). -/

namespace Sys2Proof.Machine

open State

/-! ### The mask by its bits (R142) -/

theorem and_mask_ne_zero (x : BitVec 11) (k : FaultKind) : (x &&& k.mask != 0) = x.getLsbD (k.code - 1) := by
  have hlt : k.code - 1 < 11 := by cases k <;> decide
  rw [Bool.eq_iff_iff, ne_zero_iff_bit]
  simp only [BitVec.getLsbD_and, FaultKind.getLsbD_mask, Bool.and_eq_true, decide_eq_true_eq]
  exact ⟨fun ⟨i, _, hx, hi⟩ => hi ▸ hx, fun h => ⟨_, hlt, h, rfl⟩⟩

theorem masked_eq_bit (s : State) (k : FaultKind) : s.masked k = s.faults.mask.getLsbD (k.code - 1) :=
  and_mask_ne_zero _ k

theorem faultPending_eq_bit (s : State) (k : FaultKind) : s.faultPending k = s.faults.pending.getLsbD (k.code - 1) :=
  and_mask_ne_zero _ k

/-! ### A fault taken (R140, R141, R144) -/

/-- A fault graver than the one the capture record holds takes its place (R144). -/
theorem latchFault_graver {s : State} {h : Capture} (hc : s.faults.capture = some h) {r : FaultRecord}
    (hr : h.record.kind.severity < r.kind.severity) :
    s.latchFault r = (s.setFaults { s.faults with
      pending := s.faults.pending ||| r.kind.mask, capture := some { record := r, follow := 0 } }).raiseFlag .supervisor .capture := by
  simp [latchFault, hc, offerCapture, hr]

theorem takeFault_capture (s : State) (r : FaultRecord) : (s.takeFault r).faults = (s.latchFault r).faults := by
  unfold takeFault
  dsimp only
  split
  · rfl
  · exact append_faults _ _ _

/-- A fault taken is logged on the supervisor link alone, and raises CAPTURE and LOG_LOST alone. -/
theorem latchFault_links (s : State) (r : FaultRecord) : (s.latchFault r).links = s.links
    ∨ (s.latchFault r).links = (s.raiseFlag .supervisor .capture).links := by
  unfold latchFault
  dsimp only
  split
  · exact .inr rfl
  · exact .inl rfl

theorem latchFault_log (s : State) (r : FaultRecord) :
    ((s.latchFault r).links.get .supervisor).log = (s.links.get .supervisor).log := by
  obtain h | h := latchFault_links s r
  · rw [h]
  · rw [h]
    rfl

theorem latchFault_requestLinks (s : State) (r : FaultRecord) :
    (s.latchFault r).links.fuel = s.links.fuel ∧ (s.latchFault r).links.thermal = s.links.thermal := by
  obtain h | h := latchFault_links s r <;> rw [h] <;> exact ⟨rfl, rfl⟩

theorem append_supervisor_requestLinks (s : State) (e : LogEntry) :
    (s.append .supervisor e).links.fuel = s.links.fuel ∧ (s.append .supervisor e).links.thermal = s.links.thermal := by
  unfold append
  split <;> exact ⟨rfl, rfl⟩

theorem takeFault_requestLinks (s : State) (r : FaultRecord) :
    (s.takeFault r).links.fuel = s.links.fuel ∧ (s.takeFault r).links.thermal = s.links.thermal := by
  obtain ⟨hfuel, hthermal⟩ := latchFault_requestLinks s r
  unfold takeFault
  dsimp only
  split
  · exact ⟨hfuel, hthermal⟩
  · obtain ⟨hfuel', hthermal'⟩ := append_supervisor_requestLinks (s.latchFault r) (.fault r)
    exact ⟨hfuel'.trans hfuel, hthermal'.trans hthermal⟩

/-- An entry appended raises LOG_LOST at most. -/
theorem append_sticky_bit (s : State) (l : Link) (e : LogEntry) {i : Nat} (hi : i ≠ 3) :
    ((s.append l e).links.get l).sticky.getLsbD i = (s.links.get l).sticky.getLsbD i := by
  unfold append
  split
  · rw [setLink_links, PerLink.get_set, if_pos rfl]
  · have hbit : Flag.logLost.mask.getLsbD i = false := by
      rw [Flag.getLsbD_mask]
      exact decide_eq_false hi
    rw [raiseFlag_links, PerLink.get_set, if_pos rfl]
    simp [hbit]

theorem takeFault_sticky_bit (s : State) (r : FaultRecord) :
    ((s.takeFault r).links.get .supervisor).sticky.getLsbD 10 = ((s.latchFault r).links.get .supervisor).sticky.getLsbD 10 := by
  unfold takeFault
  dsimp only
  split
  · rfl
  · exact append_sticky_bit _ _ _ (by decide)

theorem raiseFlag_bit (s : State) (l : Link) (f : Flag) : ((s.raiseFlag l f).links.get l).sticky.getLsbD f.bit = true := by
  rw [raiseFlag_links, PerLink.get_set, if_pos rfl]
  simp [Flag.getLsbD_mask]

theorem FaultKind.code_sub_injective {j k : FaultKind} : j.code - 1 = k.code - 1 ↔ j = k := by
  have hall : ∀ j k : FaultKind, j.code - 1 = k.code - 1 ↔ j = k := by
    intro j k
    cases j <;> cases k <;> decide
  exact hall j k

/-! ### Faults handed over, taken in the order raised (R140) -/

/-- The state with other faults handed over. -/
def State.withRaised (s : State) (rs : List RaisedFault) : State := s.setFaults { s.faults with raised := rs }

theorem latchFault_withRaised (s : State) (r : FaultRecord) (rs : List RaisedFault) :
    (s.withRaised rs).latchFault r = (s.latchFault r).withRaised rs := by
  unfold latchFault
  dsimp only
  show (if (offerCapture s.faults.capture r).2 = true then _ else _) = _
  split <;> rfl

theorem append_withRaised (s : State) (l : Link) (e : LogEntry) (rs : List RaisedFault) :
    (s.withRaised rs).append l e = (s.append l e).withRaised rs := by
  unfold append
  show (if (s.links.get l).log.length < Config.logDepth then _ else _) = _
  split <;> rfl

/-- What takes a fault does not look at the faults that wait. -/
theorem takeFault_withRaised (s : State) (r : FaultRecord) (rs : List RaisedFault) :
    (s.withRaised rs).takeFault r = (s.takeFault r).withRaised rs := by
  unfold takeFault
  dsimp only
  rw [latchFault_withRaised]
  show (if (s.latchFault r).masked r.kind = true then _ else _) = _
  split
  · rfl
  · exact append_withRaised _ _ _ _

theorem takeRaised_cons {s : State} {y : RaisedFault} {rest : List RaisedFault} (h : s.faults.raised = y :: rest) :
    s.takeRaised = ((s.setFaults { s.faults with raised := rest }).takeFault y.record).takeRaised := by
  have hrest : ((s.setFaults { s.faults with raised := rest }).takeFault y.record).faults.raised = rest := (takeFault_faults _ _).1
  have hstart : (s.withRaised []).takeFault y.record
      = ((s.setFaults { s.faults with raised := rest }).takeFault y.record).withRaised [] :=
    takeFault_withRaised (s.withRaised rest) y.record []
  rw [takeRaised, h, takeRaised, hrest]
  exact congrArg (List.foldl (fun s y => s.takeFault y.record) · rest) hstart

/-! ### The sweep of OVERSPEED (R130) -/

theorem waitingSlots_nodup {s : State} (hs : s.timelineSound) : s.waitingSlots.Nodup := by
  have hagrees := ((timelineSound_iff s).mp hs).2
  rw [waitingSlots_eq]
  refine List.nodup_append.mpr ⟨hagrees.nodup .bankA, hagrees.nodup .bankB, fun k hA j hB hkj => ?_⟩
  subst hkj
  obtain ⟨c, hc, hbank⟩ := (hagrees.waits _ _).mp hA
  obtain ⟨c', hc', hbank'⟩ := (hagrees.waits _ _).mp hB
  obtain rfl : c = c' := Option.some.inj (hc.symm.trans hc')
  cases hbank.symm.trans hbank'

theorem released_of_waits {s : State} (hs : s.timelineSound) {b : Bank} {k : Slot} (hk : k ∈ s.waitsOn b) :
    ∃ r, s.pool.find k = some r ∧ r.isReleased = true := by
  obtain ⟨c, hc, _⟩ := (((timelineSound_iff s).mp hs).2.waits b k).mp hk
  obtain ⟨r, hr, hrel, _⟩ := Pool.releasedAt_eq_some.mp hc
  exact ⟨r, hr, hrel⟩

/-- Records that are RELEASED, one after another, are all suppressed: none of them is touched before its turn. -/
theorem foldl_suppressReleased {s : State} (cause : SuppressCause) {ks : List Slot} (hnodup : ks.Nodup)
    (hrel : ∀ k ∈ ks, ∃ r, s.pool.find k = some r ∧ r.isReleased = true) :
    ks.foldl (fun s k => s.suppressReleased k cause) s = ks.foldl (fun s k => s.endUnstarted k (.suppressed cause)) s := by
  induction ks generalizing s with
  | nil => rfl
  | cons k ks ih =>
    obtain ⟨hk, hnodup⟩ := List.nodup_cons.mp hnodup
    obtain ⟨r, hr, hrel'⟩ := hrel k List.mem_cons_self
    have hstep : s.suppressReleased k cause = s.endUnstarted k (.suppressed cause) := by
      rw [suppressReleased, hr]
      exact if_pos hrel'
    obtain ⟨x, -, hfind⟩ := suppressReleased_unreleases s k cause
    rw [List.foldl_cons, List.foldl_cons, ← hstep]
    refine ih hnodup fun j hj => ?_
    have hne : j ≠ k := fun h => hk (h ▸ hj)
    rw [hfind, if_neg hne]
    exact hrel j (List.mem_cons_of_mem k hj)

theorem overspeedSweep_eq {s : State} (hs : s.timelineSound) :
    s.overspeedSweep = s.waitingSlots.foldl (fun s k => s.endUnstarted k (.suppressed .overspeed)) s :=
  foldl_suppressReleased .overspeed (waitingSlots_nodup hs) fun k hk => by
    obtain ⟨b, hb⟩ := (mem_waitingSlots s k).mp hk
    exact released_of_waits hs hb

/-- Settles O59. -/
theorem faultRaised : Obligations.FaultRaised := by
  unfold Obligations.FaultRaised
  refine ⟨fun s b k c x => ⟨rfl, rfl⟩, takeRaised_of_none, fun s y rest h => takeRaised_cons h, fun s r => ?_, fun s k c => ?_⟩
  · intro u before after masked
    obtain ⟨hraised, hmask, hpending⟩ := takeFault_faults s r
    obtain ⟨hfuel, hthermal⟩ := takeFault_requestLinks s r
    have hmasked : s.masked r.kind = masked := masked_eq_bit s r.kind
    have hcapture {h : Capture} (hlatch : s.latchFault r = (s.setFaults { s.faults with
        pending := s.faults.pending ||| r.kind.mask, capture := some h }).raiseFlag .supervisor .capture) :
        u.faults.capture = some h ∧ after.sticky.getLsbD 10 = true := by
      refine ⟨by rw [takeFault_capture, hlatch]; rfl, ?_⟩
      rw [takeFault_sticky_bit, hlatch]
      exact raiseFlag_bit _ .supervisor .capture
    have hunmasked (hm : masked = false) : u = (s.latchFault r).append .supervisor (.fault r) :=
      takeFault_of_unmasked (hmasked.trans hm)
    have hlog := latchFault_log s r
    refine ⟨fun j => ?_, hmask, hraised, fun hnone => hcapture (latchFault_first hnone r),
      fun h hc hsev => hcapture (latchFault_graver hc hsev), fun h hc hsev => ⟨?_, ?_⟩, fun hm => ?_, fun hm hroom => ?_,
      fun hm hfull => ?_, hfuel, hthermal, takeFault_pool s r, takeFault_drivers s r, takeFault_limits s r, takeFault_table s r,
      takeFault_clock s r, takeFault_marks s r⟩
    · rw [hpending, BitVec.getLsbD_or, FaultKind.getLsbD_mask]
      simp only [FaultKind.code_sub_injective]
    · rw [takeFault_capture, latchFault_follow hc hsev]
      rfl
    · rw [takeFault_sticky_bit, latchFault_follow hc hsev]
      rfl
    · have hu : u = s.latchFault r := takeFault_of_masked (hmasked.trans hm)
      show (u.links.get .supervisor).log = _
      rw [hu]
      exact hlog
    · show (u.links.get .supervisor).log = _
      rw [hunmasked hm, append_of_room _ _ _ (by rw [hlog]; exact hroom), setLink_links, PerLink.get_set, if_pos rfl, hlog]
    · show (u.links.get .supervisor).log = _ ∧ (u.links.get .supervisor).sticky.getLsbD 3 = true
      rw [hunmasked hm, append_of_full _ _ _ (by rw [hlog]; exact hfull), raiseFlag_links, PerLink.get_set, if_pos rfl]
      exact ⟨hlog, by simp [Flag.getLsbD_mask, Flag.bit]⟩
  · intro masked swept
    have hmasked : s.masked k = masked := masked_eq_bit s k
    have hreact (hm : masked = false) : s.reactUnmasked k c = s.react k c := if_neg (by simp [hmasked, hm])
    refine ⟨fun hm => if_pos (hmasked.trans hm), fun hm hk hs => ?_, fun y hm hk hy => ?_, reactUnmasked_none⟩
    · have hsweep : s.reactUnmasked k c = s.overspeedSweep := by rw [hreact hm, hk]; rfl
      have hswept : s.overspeedSweep = swept := overspeedSweep_eq hs
      exact ⟨hsweep.trans hswept, hswept ▸ overspeedSweep_noneReleased hs⟩
    · rw [hreact hm, hk, hy]
      rfl

end Sys2Proof.Machine
end

section
/-! PROOF. The bank drivers: start decisions (O54), the end of a pulse (O56), the peak deadline and the recovery end (O57), the lines of the power
stage (O58). -/

namespace Sys2Proof.Machine

open State

theorem reached_eq_true {now x : Time} (h : (now - x).toNat < 2 ^ 31) : reached now x = true := decide_eq_true h

theorem reached_eq_false {now x : Time} (h : 2 ^ 31 ≤ (now - x).toNat) : reached now x = false :=
  decide_eq_false (Nat.not_lt.mpr h)

/-! ### The running pulse -/

theorem runningPulse_of_firing {s : State} {b : Bank} {p : RunningPulse} (h : (s.drivers.get b).state = .firing p) :
    s.runningPulse b = some p := by
  rw [runningPulse, h]

theorem runningPulse_of_not_firing {s : State} {b : Bank} (h : ∀ p, (s.drivers.get b).state ≠ .firing p) :
    s.runningPulse b = none := by
  unfold runningPulse
  split
  · next p hp => exact absurd hp (h p)
  · rfl

/-- The status entry of the cylinder whose pulse ends without setting a carry entry (R119). -/
theorem closePulse_kept {s : State} {p : RunningPulse} {r : Record} {why : PulseEnd} {driven : Nat}
    (h : ¬ (why = .expiry ∧ r.owner = .fuel ∧ r.kind = .main ∧ r.carried = false)) :
    s.closePulse p r why driven = { s.table.get r.cylinder with
      fired := (s.table.get r.cylinder).fired + driven
      streak := if p.peakSeen then 0 else (s.table.get r.cylinder).streak } := by
  unfold closePulse
  dsimp only
  split
  · exact if_neg h
  · rfl

/-- The end of the pulse of a FIRING record (R119). -/
theorem endPulse_of_find {s : State} {b : Bank} {p : RunningPulse} {r : Record} {f : FiringFields} {actual : Time} (why : PulseEnd)
    (hp : s.runningPulse b = some p) (hr : s.pool.find p.slot = some r) (hphase : r.phase = .firing f actual) :
    let driven := (s.timeBase - actual).toNat
    let recovering := s.setBankState b (.recovery (s.timeBase + BitVec.ofNat 32 s.engine.config.bankRecovery))
    s.endPulse b why = ((recovering.negateFire r.cylinder).setCylinder r.cylinder (s.closePulse p r why driven)).endOpportunity
      p.slot (endOutcome why p.outcome) p.cycle (some actual) driven p.noRise := by
  intro driven recovering
  have hactual : s.actualStart r = actual := by rw [actualStart, hphase]
  rw [endPulse, hp]
  dsimp only
  rw [hr]
  dsimp only
  rw [hactual]
  rfl

/-! ### The lines of the power stage (R116, R118) -/

/-- Settles O58. -/
theorem powerStageLines : Obligations.PowerStageLines := by
  unfold Obligations.PowerStageLines
  intro t b s a x raised
  have hpeak : exec (.peakEdge t b) s = .next (a.peakEdge b) := rfl
  have hassert : exec (.stageFaultAssertion t b) s = .next (a.assertStage b) := rfl
  have hpulse : raised.runningPulse b = a.runningPulse b := by simp [raised, runningPulse, x]
  refine ⟨fun hnone => ?_, fun p hp => ?_, rfl, fun hline => ?_, fun hline hnone => ?_, fun p r f actual hline hp hr hphase => ?_⟩
  · rw [hpeak, State.peakEdge, runningPulse_of_not_firing hnone]
  · rw [hpeak, State.peakEdge, runningPulse_of_firing hp]
    rfl
  · rw [hassert, assertStage]
    exact congrArg _ (if_pos hline)
  · rw [hassert, assertStage, if_neg (by simp [a, x] at hline; simp [a, hline])]
    have hset : (a.setStageLine b true).runningPulse b = none := hpulse.trans (runningPulse_of_not_firing hnone)
    dsimp only
    rw [hset]
    rfl
  · intro y e driven idle dark
    have hset : (a.setStageLine b true).runningPulse b = some p := hpulse.trans (runningPulse_of_firing hp)
    have hcylinder : (a.setStageLine b true).firingCylinder b = some r.cylinder := by
      have hfind : (a.setStageLine b true).pool.find p.slot = some r := hr
      rw [firingCylinder, hset]
      simp [hfind]
    have hy : y = raised.takeFault (raised.faultNow .stageFault (some r.cylinder) (some p.slot)) :=
      raiseFault_taken (by decide) (by decide)
    have hpool : y.pool = a.pool := by rw [hy, takeFault_pool]; rfl
    have hpulseY : y.runningPulse b = some p := by
      rw [← hset, runningPulse, runningPulse, hy, takeFault_drivers]
      rfl
    have hend := endPulse_of_find .stage hpulseY (by rw [hpool]; exact hr) hphase
    have hclose := closePulse_kept (s := y) (p := p) (r := r) (why := .stage) (driven := driven) (by rintro ⟨h, _⟩; cases h)
    have htime : y.timeBase = t := by simp [y, raised, a]
    have htable : y.table = a.table := by simp [y, raised]
    have hengine : y.engine = a.engine := by simp [y, raised]
    rw [hassert, assertStage, if_neg (by simp [a, x] at hline; simp [a, hline])]
    dsimp only
    rw [hset, hcylinder]
    refine congrArg _ (hend.trans ?_)
    rw [htime, hengine, hclose, htable]
    rfl

/-! ### The end of a pulse (R119) -/

/-- Settles O56. -/
theorem endOfPulse : Obligations.EndOfPulse := by
  unfold Obligations.EndOfPulse
  intro t b s a
  have hexec : exec (.endOfPulse t b) s = .next (a.pulseExpiry b) := rfl
  have htime : a.timeBase = t := arrive_timeBase s t
  refine ⟨fun hnone => ?_, fun p hp => ⟨fun hearly => ?_, fun r f actual hdue hr hphase => ?_⟩⟩
  · rw [hexec, pulseExpiry, runningPulse_of_not_firing hnone]
  · rw [hexec, pulseExpiry, runningPulse_of_firing hp]
    dsimp only
    rw [htime, reached_eq_false hearly]
    rfl
  · intro e driven sets idle dark
    have hclose : a.closePulse p r .expiry driven = { e with
        fired := e.fired + driven
        streak := if p.peakSeen then 0 else e.streak
        carry := if sets then some { offset := r.offset, duration := f.duration } else e.carry
        carryCount := if sets then 0 else e.carryCount } := by
      unfold closePulse
      rw [hphase]
      by_cases h : sets
      · have hset : PulseEnd.expiry = .expiry ∧ r.owner = .fuel ∧ r.kind = .main ∧ r.carried = false := ⟨rfl, h⟩
        rw [if_pos h, if_pos h]
        exact if_pos hset
      · have hkept : ¬ (PulseEnd.expiry = .expiry ∧ r.owner = .fuel ∧ r.kind = .main ∧ r.carried = false) := fun hset => h hset.2
        rw [if_neg h, if_neg h]
        exact if_neg hkept
    have hend := endPulse_of_find .expiry (runningPulse_of_firing hp) hr hphase
    rw [hexec, pulseExpiry, runningPulse_of_firing hp]
    dsimp only
    rw [htime, reached_eq_true hdue, if_pos rfl, hend, htime, hclose]
    rfl

/-! ### Start decisions (R114) -/

theorem dueHead_of_not_idle {s : State} {b : Bank} (h : (s.drivers.get b).state ≠ .idle) : s.dueHead b = none := by
  cases hd : s.dueHead b with
  | none => rfl
  | some x => exact absurd (dueHead_some hd).1 h

theorem dueHead_of_empty {s : State} {b : Bank} (h : (s.drivers.get b).waiting = []) : s.dueHead b = none := by
  cases hd : s.dueHead b with
  | none => rfl
  | some x =>
    obtain ⟨-, ⟨rest, hrest⟩, -⟩ := dueHead_some hd
    cases h.symm.trans hrest

theorem decideUpTo_of_none {s : State} {b : Bank} (h : s.dueHead b = none) (n : Nat) : decideUpTo n b s = s := by
  cases n with
  | zero => rfl
  | succ n => rw [decideUpTo, h]

theorem decideUpTo_of_due {s : State} {b : Bank} {r : Record} {f : FiringFields} {e : WaitEntry} {planned : Time}
    (h : s.dueHead b = some (r, f, e, planned)) (n : Nat) :
    decideUpTo (n + 1) b s = decideUpTo n b (s.decideHead b r f e planned) := by
  rw [decideUpTo, h]

/-- A decision takes the head's entry out of the waiting list, whatever it decides. -/
theorem decideHead_waiting (s : State) (b : Bank) {r : Record} (hr : s.pool.find r.slot = some r) (f : FiringFields) (e : WaitEntry)
    (planned : Time) : ((s.decideHead b r f e planned).drivers.get b).waiting
      = (s.drivers.get b).waiting.filter fun x => x.slot != r.slot := by
  have hended (o : Outcome) : ((s.endUnstarted r.slot o).drivers.get b).waiting
      = (s.drivers.get b).waiting.filter fun x => x.slot != r.slot := by
    rw [endUnstarted, endOpportunity_drivers hr, dropWaiting_get]
  have hstarted (o : StartOutcome) : ((s.startPulse b r f o).drivers.get b).waiting
      = (s.drivers.get b).waiting.filter fun x => x.slot != r.slot := by
    cases b <;> rfl
  unfold decideHead
  dsimp only
  split_ifs
  · exact hended _
  · exact hended _
  · exact hstarted _
  · exact hstarted _
  · exact hstarted _

theorem decideHead_length {s : State} {b : Bank} {r : Record} {f : FiringFields} {e : WaitEntry} {planned : Time} {n : Nat}
    (h : s.dueHead b = some (r, f, e, planned)) (hn : (s.drivers.get b).waiting.length ≤ n + 1) :
    ((s.decideHead b r f e planned).drivers.get b).waiting.length ≤ n := by
  obtain ⟨-, ⟨rest, hrest⟩, hr, -, hslot, -⟩ := dueHead_some h
  have hhead : (e.slot != r.slot) = false := by simp [hslot]
  rw [decideHead_waiting s b (hslot ▸ hr), hrest, List.filter_cons, hhead]
  have hle := List.length_filter_le (fun x : WaitEntry => x.slot != r.slot) rest
  rw [hrest, List.length_cons] at hn
  simp only [Bool.false_eq_true, if_false]
  omega

/-- With a bound that the waiting list does not exceed, the decisions do not depend on the bound. -/
theorem decideUpTo_eq {b : Bank} {n m : Nat} {s : State} (hn : (s.drivers.get b).waiting.length ≤ n)
    (hm : (s.drivers.get b).waiting.length ≤ m) : decideUpTo n b s = decideUpTo m b s := by
  induction n generalizing m s with
  | zero => rw [decideUpTo_of_none (dueHead_of_empty (List.length_eq_zero_iff.mp (Nat.le_zero.mp hn))),
      decideUpTo_of_none (dueHead_of_empty (List.length_eq_zero_iff.mp (Nat.le_zero.mp hn)))]
  | succ n ih =>
    cases hd : s.dueHead b with
    | none => rw [decideUpTo_of_none hd, decideUpTo_of_none hd]
    | some x =>
      obtain ⟨r, f, e, planned⟩ := x
      cases m with
      | zero => cases hd.symm.trans (dueHead_of_empty (List.length_eq_zero_iff.mp (Nat.le_zero.mp hm)))
      | succ m =>
        rw [decideUpTo_of_due hd, decideUpTo_of_due hd]
        exact ih (decideHead_length hd hn) (decideHead_length hd hm)

theorem takeDecisions_of_none {s : State} {b : Bank} (h : s.dueHead b = none) : s.takeDecisions b = s := decideUpTo_of_none h _

/-- The decisions on a due head, then those on what it leaves. -/
theorem takeDecisions_of_due {s : State} {b : Bank} {r : Record} {f : FiringFields} {e : WaitEntry} {planned : Time}
    (h : s.dueHead b = some (r, f, e, planned)) : s.takeDecisions b = (s.decideHead b r f e planned).takeDecisions b := by
  obtain ⟨-, ⟨rest, hrest⟩, -⟩ := dueHead_some h
  have hlength : (s.drivers.get b).waiting.length = rest.length + 1 := by rw [hrest]; rfl
  rw [takeDecisions, hlength, decideUpTo_of_due h]
  exact decideUpTo_eq (decideHead_length h hlength.le) le_rfl

/-- After the decisions no head of an IDLE bank is due. -/
theorem decideUpTo_dueHead {b : Bank} {n : Nat} {s : State} (hn : (s.drivers.get b).waiting.length ≤ n) :
    (decideUpTo n b s).dueHead b = none := by
  induction n generalizing s with
  | zero => exact dueHead_of_empty (List.length_eq_zero_iff.mp (Nat.le_zero.mp hn))
  | succ n ih =>
    cases hd : s.dueHead b with
    | none => rw [decideUpTo_of_none hd, hd]
    | some x =>
      obtain ⟨r, f, e, planned⟩ := x
      rw [decideUpTo_of_due hd]
      exact ih (decideHead_length hd hn)

theorem takeRaised_dueHead (s : State) (b : Bank) : s.takeRaised.dueHead b = s.dueHead b := by
  simp [dueHead]

theorem dueHead_eq {s : State} {b : Bank} {e : WaitEntry} {rest : List WaitEntry} {r : Record} {f : FiringFields} {planned : Time}
    (hidle : (s.drivers.get b).state = .idle) (hwait : (s.drivers.get b).waiting = e :: rest) (hr : s.pool.find e.slot = some r)
    (hphase : r.phase = .released f planned) :
    s.dueHead b = if reached s.timeBase planned then some (r, f, e, planned) else none := by
  simp [dueHead, hidle, hwait, hr, hphase]

/-- Settles O54. -/
theorem startDecision : Obligations.StartDecision := by
  unfold Obligations.StartDecision
  intro t b s a x
  have hexec : exec (.startDecision t b) s = .next (a.takeDecisions b).takeRaised := rfl
  have htime : a.timeBase = t := arrive_timeBase s t
  refine ⟨⟨_, hexec, ?_⟩, hexec, fun hraised => ⟨fun hno => ?_, fun e rest r f T hidle hwait hr hphase => ?_⟩⟩
  · rw [takeRaised_dueHead]
    exact decideUpTo_dueHead le_rfl
  · have hnone : a.dueHead b = none := hno.elim dueHead_of_not_idle dueHead_of_empty
    rw [hexec, takeDecisions_of_none hnone, takeRaised_of_none _ hraised]
  · intro slip started
    have hdue := dueHead_eq hidle hwait hr hphase
    obtain ⟨-, hslot⟩ := Pool.find_some hr
    rw [htime] at hdue
    have hhead (h : slip < 2 ^ 31) : exec (.startDecision t b) s = .next ((a.decideHead b r f e T).takeDecisions b).takeRaised := by
      rw [reached_eq_true h, if_pos rfl] at hdue
      rw [hexec, takeDecisions_of_due hdue]
    have hslip : passedBy a.timeBase T = slip := by rw [htime]; rfl
    have hstart (o : StartOutcome) : a.startPulse b r f o = started o := by
      unfold startPulse
      dsimp only
      rw [hslot, htime]
      simp only [started, after]
      rw [← htime]
      rfl
    have hbusy (o : StartOutcome) : ((started o).drivers.get b).state ≠ .idle := by
      simp [started]
    refine ⟨fun hearly => ?_, fun h hstage => ?_, fun h hstage hlate => ?_, fun hstage hle h => ⟨fun hlate => ?_, fun hlate hpos => ?_, fun hlate hzero => ?_⟩⟩
    · rw [reached_eq_false hearly] at hdue
      rw [hexec, takeDecisions_of_none hdue, takeRaised_of_none _ hraised]
    · rw [hhead h, decideHead, hslip, if_pos hstage, hslot]
      rfl
    · rw [hhead h, decideHead, hslip, if_neg (by simp [x] at hstage; simp [hstage]), if_pos hlate, hslot]
      rfl
    · rw [hhead h, decideHead, hslip, if_neg (by simp [x] at hstage; simp [hstage]), if_neg (by omega), if_pos hlate, hslot, hstart,
        takeDecisions_of_none (dueHead_of_not_idle (by exact hbusy _))]
    · rw [hhead h, decideHead, hslip, if_neg (by simp [x] at hstage; simp [hstage]), if_neg (by omega), if_neg (by simp [hlate]), if_pos hpos, hstart,
        takeDecisions_of_none (dueHead_of_not_idle (by exact hbusy _)), takeRaised_of_none _ (by exact hraised)]
    · rw [hhead h, decideHead, hslip, if_neg (by simp [x] at hstage; simp [hstage]), if_neg (by omega), if_neg (by simp [hlate]), if_neg (by omega), hstart,
        takeDecisions_of_none (dueHead_of_not_idle (by exact hbusy _)), takeRaised_of_none _ (by exact hraised)]

/-! ### The peak deadline (R117) and the recovery end (R120) -/

theorem peakExpiry_of_deadline {s : State} {b : Bank} {p : RunningPulse} {d : Time} (hp : (s.drivers.get b).state = .firing p)
    (hd : p.deadline = some d) : s.peakExpiry b = if reached s.timeBase d then
      (if p.peakSeen then s.setBankState b (.firing { p with deadline := none }) else s.noPeak b p) else s := by
  rw [peakExpiry, runningPulse_of_firing hp]
  dsimp only
  rw [hd]

/-- A pulse without a peak by its deadline: NO_RISE and the streak, with INJECTOR_WATCH once the streak stands at 3 (R117). -/
theorem noPeak_of_find {s : State} {b : Bank} {p : RunningPulse} {r : Record} (hr : s.pool.find p.slot = some r) :
    let e := s.table.get r.cylinder
    let noRise := ((s.setBankState b (.firing { p with deadline := none, noRise := true })).raiseFault .noRise (some r.cylinder)
      (some p.slot)).setCylinder r.cylinder { e with streak := min 3 (e.streak + 1) }
    s.noPeak b p = if 3 ≤ e.streak + 1 then noRise.raiseFault .injectorWatch (some r.cylinder) (some p.slot) else noRise := by
  intro e noRise
  have hset : (s.setBankState b (.firing { p with deadline := none, noRise := true })).pool.find p.slot = some r := hr
  have htable : ((s.setBankState b (.firing { p with deadline := none, noRise := true })).raiseFault .noRise (some r.cylinder)
      (some p.slot)).table = s.table := by
    rw [raiseFault_table]
    rfl
  unfold noPeak
  dsimp only
  rw [hset]
  dsimp only
  rw [htable]
  rfl

/-- Settles O57. -/
theorem peakDeadlineAndRecovery : Obligations.PeakDeadlineAndRecovery := by
  unfold Obligations.PeakDeadlineAndRecovery
  intro t b s a
  have hpeak : exec (.peakDeadline t b) s = .next (a.peakExpiry b) := rfl
  have hrecovery : exec (.recoveryEnd t b) s = .next (a.recoveryExpiry b) := rfl
  have htime : a.timeBase = t := arrive_timeBase s t
  refine ⟨fun p d hp hd => ?_, fun hnone => ?_, fun ends hends => ?_, fun hnone => ?_⟩
  · have hexpiry := peakExpiry_of_deadline hp hd
    rw [htime] at hexpiry
    refine ⟨fun hearly => ?_, fun hdue hseen => ?_, fun r hdue hseen hr => ?_⟩
    · rw [hpeak, hexpiry, reached_eq_false hearly]
      rfl
    · rw [hpeak, hexpiry, reached_eq_true hdue, if_pos rfl, if_pos hseen]
      rfl
    · intro e noRise
      have hno : a.peakExpiry b = a.noPeak b p := by
        rw [hexpiry, reached_eq_true hdue, if_pos rfl, if_neg (by simp [hseen])]
      refine ⟨fun hlow => ?_, fun hhigh => ?_⟩
      · rw [hpeak, hno, noPeak_of_find hr]
        exact congrArg _ (if_neg (show ¬ 3 ≤ e.streak + 1 by omega))
      · rw [hpeak, hno, noPeak_of_find hr]
        exact congrArg _ (if_pos (show 3 ≤ e.streak + 1 by omega))
  · rw [hpeak, peakExpiry]
    cases hp : a.runningPulse b with
    | none => rfl
    | some p =>
      dsimp only
      cases hd : p.deadline with
      | none => rfl
      | some d =>
        unfold runningPulse at hp
        split at hp
        · next q hq =>
          obtain rfl := Option.some.inj hp
          exact absurd hd (hnone _ d hq)
        · cases hp
  · have hexpiry : a.recoveryExpiry b = if reached t ends then (a.setBankState b .idle).decideNow b else a := by
      rw [recoveryExpiry, hends]
      dsimp only
      rw [htime]
    refine ⟨fun hearly => ?_, fun hdue => ⟨?_, fun hempty hraised => ?_⟩⟩
    · rw [hrecovery, hexpiry, reached_eq_false hearly]
      rfl
    · rw [hrecovery, hexpiry, reached_eq_true hdue, if_pos rfl]
      rfl
    · have hwait : ((a.setBankState b .idle).drivers.get b).waiting = [] := by
        rw [setBankState_get, if_pos rfl]
        exact hempty
      rw [hrecovery, hexpiry, reached_eq_true hdue, if_pos rfl, decideNow, takeDecisions_of_none (dueHead_of_empty hwait),
        takeRaised_of_none _ (by exact hraised)]
      rfl
  · rw [hrecovery, recoveryExpiry]
    split
    · next ends hends => exact absurd hends (hnone ends)
    · rfl

end Sys2Proof.Machine
end

section
/-! PROOF. The cam edges (O46) and the stall expiry (O48), the mark units (O53), the arbiter (O30), TAKE_WITHDRAW (O31), WITHDRAW_ANY and
SCRUB_POOL (O38), SET_FAULT_MASK (O39). -/

namespace Sys2Proof.Machine

open State

/-! ### Cam edges (R12, R13) -/

theorem modCycle_natCast (n : Nat) : modCycle (n : Int) = n % 11520 := by
  simp only [modCycle, Config.cycleSteps]
  omega

/-- Settles O46. -/
theorem camEdge : Obligations.CamEdge := by
  unfold Obligations.CamEdge
  intro t s a runs inWindow phased
  have hexec : exec (.camEdge t) s = .next a.camEdge := rfl
  have htime : a.timeBase = t := arrive_timeBase s t
  have hwindow (x : Nat) : inCamWindow a.engine.config.camLo a.engine.config.camHi x = true ↔ inWindow x := decide_eq_true_iff
  have hruns {x : State} (h : a.camEdge = x) : runs x := hexec.trans (congrArg _ h)
  refine ⟨fun hno => hruns ?_, fun p hp => ?_⟩
  · rcases hno with h | h <;> rw [State.camEdge, h]
  · intro r
    have hangle : a.clock.interpolated a.timeBase = r := by
      rw [Clock.interpolated_some hp, htime]
    refine ⟨fun hsync => ?_, fun hsync => ?_⟩
    · have hgap : a.camEdge = if inCamWindow a.engine.config.camLo a.engine.config.camHi r then a.findPhase 0
          else if inCamWindow a.engine.config.camLo a.engine.config.camHi (r + 5760) then a.findPhase 1 else a := by
        rw [State.camEdge, hsync, hangle]
        rfl
      simp only [hwindow] at hgap
      refine ⟨fun h => hruns ?_, fun h h' => hruns ?_, fun h h' => hruns ?_⟩
      · rw [hgap, if_pos h]
        rfl
      · rw [hgap, if_neg h, if_pos h']
        rfl
      · rw [hgap, if_neg h, if_neg h']
    · have hturn : modCycle ((r : Int) + (Config.revolutionSteps : Int)) = (r + 5760) % 11520 := by
        rw [← modCycle_natCast]
        rfl
      have hsynced : a.camEdge = if inCamWindow a.engine.config.camLo a.engine.config.camHi r then
            a.setClock { a.clock with cam := { a.clock.cam with seen := true, good := true } }
          else if inCamWindow a.engine.config.camLo a.engine.config.camHi ((r + 5760) % 11520) then
            a.setClock { a.clock with cam := { a.clock.cam with seen := true, opposite := true } }
          else (a.raiseFault .camFault none none).setClock { a.clock with cam := { a.clock.cam with seen := true } } := by
        rw [State.camEdge, hsync, hangle]
        dsimp only
        rw [classifyCam, hturn]
      simp only [hwindow] at hsynced
      refine ⟨fun h => hruns ?_, fun h h' => hruns ?_, fun h h' => hruns ?_⟩
      · rw [hsynced, if_pos h]
      · rw [hsynced, if_neg h, if_pos h']
      · rw [hsynced, if_neg h, if_neg h']

/-! ### The stall expiry (R7, R8) -/

theorem stallExpiry_eq {s : State} {ends : Time} (hends : s.clock.stall = some ends) :
    s.stallExpiry = if s.clock.sync ≠ .stopped ∧ reached s.timeBase ends = true then s.enterStopped else s := by
  rw [State.stallExpiry, hends]
  cases s.clock.sync
  case stopped => exact (if_neg fun h => h.1 rfl).symm
  all_goals simp

/-- Settles O48. -/
theorem stallExpiry : Obligations.StallExpiry := by
  unfold Obligations.StallExpiry
  intro t s a stopped
  have hexec : exec (.stallExpiry t) s = .next a.stallExpiry := rfl
  have htime : a.timeBase = t := arrive_timeBase s t
  have hentered : a.enterStopped = (if a.clock.sync = .synced then stopped.leavingSynced else stopped).clearCarry := by
    unfold enterStopped
    cases a.clock.sync <;> rfl
  refine ⟨fun h => ?_, fun ends hends => ⟨fun hearly => ?_, fun hdue => ⟨fun h => ?_, fun h => ?_⟩⟩⟩
  · rw [hexec, State.stallExpiry, h]
  · rw [hexec, stallExpiry_eq hends, htime, reached_eq_false hearly, if_neg (by simp)]
  · rw [hexec, stallExpiry_eq hends, htime, reached_eq_true hdue, if_pos ⟨by simp [h], rfl⟩, hentered, if_pos h]
  · have hne : a.clock.sync ≠ .synced ∧ a.clock.sync ≠ .stopped := by
      rcases h with h | h <;> rw [h] <;> decide
    rw [hexec, stallExpiry_eq hends, htime, reached_eq_true hdue, if_pos ⟨hne.2, rfl⟩, hentered, if_neg hne.1]

/-! ### The mark units (R22) -/

theorem inScan_iff {old new x : Nat} : inScan old new x = true
    ↔ 1 ≤ modCycle ((x : Int) - old) ∧ modCycle ((x : Int) - old) ≤ modCycle ((new : Int) - old) := by
  rw [inScan, Bool.and_eq_true]
  exact and_congr decide_eq_true_iff decide_eq_true_iff

theorem modCycle_startAngle (tdc : Nat) (offset : Int) (old : Nat) :
    modCycle ((startAngle tdc offset : Int) - old) = modCycle ((tdc : Int) + offset - old) := by
  simp only [startAngle, modCycle, Config.cycleSteps]
  omega

theorem mem_markHits {s : State} {u : MarkUnit} {old new : Nat} {c : Cylinder} : c ∈ s.markHits u old new
    ↔ c ∈ s.configured ∧ u.mask.getLsbD c.val = true
        ∧ 1 ≤ modCycle (((s.table.get c).tdc : Int) + u.offset - old)
        ∧ modCycle (((s.table.get c).tdc : Int) + u.offset - old) ≤ modCycle ((new : Int) - old) := by
  have hall : c ∈ allCylinders := by revert c; decide
  simp [markHits, hall, inMask, inScan_iff, modCycle_startAngle, and_assoc]

/-- Settles O53. -/
theorem markUnitHits : Obligations.MarkUnitHits := by
  unfold Obligations.MarkUnitHits
  refine ⟨fun s old new adv => rfl, ?_⟩
  intro s i old new adv u hu hit
  refine ⟨fun hnone => ?_, fun c hc honly => ?_⟩
  · have hempty : s.markHits u old new = [] := List.eq_nil_iff_forall_not_mem.mpr fun c hc => hnone c (mem_markHits.mp hc)
    simp [markOne, hu, hempty]
  · intro marked
    have hnodup : (s.markHits u old new).Nodup := List.Nodup.filter _ (by decide)
    have hone : s.markHits u old new = [c] := by
      refine List.perm_singleton.mp ((List.perm_ext_iff_of_nodup hnodup (List.nodup_singleton c)).mpr fun x => ?_)
      rw [mem_markHits, List.mem_singleton]
      exact ⟨honly x, fun h => h ▸ hc⟩
    rw [markOne, hu]
    simp only [hone, List.foldl_cons, List.foldl_nil]
    by_cases hmode : u.mode = .once
    · simp [hmode, markHit, marked]
    · simp [hmode, markHit, marked]

/-! ### The arbiter (R72, R73) -/

theorem waitingQueue_iff (s : State) (o : Owner) : s.waitingQueue o = true ↔ s.queueWaits o := by
  simp [waitingQueue]

/-- A take command takes the request the arbiter would take next when that is of its kind. -/
theorem exec_takenBy (t : Time) (x : Staged) (s : State) :
    exec (x.takenBy t) s = .next (match (s.arrive t).nextTake with
      | some (_, _, y) => if y.takenBy t = x.takenBy t then (s.arrive t).take else s.arrive t
      | none => s.arrive t) := by
  have htakeOf (isKind : Staged → Bool) (hkind : ∀ y, isKind y = decide (y.takenBy t = x.takenBy t)) :
      (s.arrive t).takeOf isKind = match (s.arrive t).nextTake with
        | some (_, _, y) => if y.takenBy t = x.takenBy t then (s.arrive t).take else s.arrive t
        | none => s.arrive t := by
    unfold takeOf
    cases (s.arrive t).nextTake with
    | none => rfl
    | some y => simp [hkind]
  cases x
  all_goals exact congrArg _ (htakeOf _ fun y => by cases y <;> simp [Staged.takenBy])

theorem nextTake_of_arbiter {s : State} {o : Owner} {n : Nat} {x : Staged} {rest : List Staged} (harb : s.arbiter = some (o, n))
    (hqueue : (s.staging.get o).queue = x :: rest) : s.nextTake = some (o, n, x) := by
  rw [nextTake, harb]
  dsimp only
  rw [hqueue]
  rfl

/-- Settles O30. -/
theorem arbiterTakes : Obligations.ArbiterTakes := by
  unfold Obligations.ArbiterTakes
  intro t o x rest s a taken fuel thermal
  have hfuel : a.waitingQueue .fuel = true ↔ fuel := waitingQueue_iff a .fuel
  have hthermal : a.waitingQueue .thermal = true ↔ thermal := waitingQueue_iff a .thermal
  refine ⟨fun hqueue => ?_, fun hf ht => ?_, fun o' n y hnext hkind => ?_⟩
  · have htakes {n : Nat} (harb : a.arbiter = some (o, n)) : exec (x.takenBy t) s = .next ((taken n).applyStaged o x) := by
      have hnext := nextTake_of_arbiter harb hqueue
      have hremoved : a.removeHead o n = taken n := by
        unfold removeHead
        rw [hqueue]
        rfl
      rw [exec_takenBy, hnext]
      dsimp only
      rw [if_pos rfl, take, hnext]
      dsimp only
      rw [hremoved]
    refine ⟨fun ho hf ht => htakes ?_, fun ho hf ht hrun => htakes ?_, fun ho ht hf => htakes ?_, fun ho ht hf hrun => htakes ?_⟩
    · rw [arbiter, if_pos (hfuel.mpr hf), if_neg (mt hthermal.mp ht), ho]
    · rw [arbiter, if_pos (hfuel.mpr hf), if_pos (hthermal.mpr ht), if_pos (show a.staging.fuelRun < Config.fuelRunLimit from Nat.lt_succ_of_le hrun), ho]
    · rw [arbiter, if_neg (mt hfuel.mp hf), if_pos (hthermal.mpr ht), ho]
    · rw [arbiter, if_pos (hfuel.mpr hf), if_pos (hthermal.mpr ht), if_neg (show ¬ a.staging.fuelRun < Config.fuelRunLimit from Nat.not_lt.mpr hrun), ho]
  · have hnone : a.nextTake = none := by
      rw [nextTake, arbiter, if_neg (mt hfuel.mp hf), if_neg (mt hthermal.mp ht)]
    rw [exec_takenBy, hnone]
  · rw [exec_takenBy, hnext]
    exact congrArg _ (if_neg hkind)

/-! ### TAKE_WITHDRAW (R99) -/

theorem matched_of {s : State} {o : Owner} {slot tag : Byte} {k : Slot} {r : Record} (hk : k.val = slot.toNat)
    (hr : s.pool.find k = some r) (ho : r.owner = o) (ht : r.tag = tag) : s.matched o slot tag = some r := by
  rw [matched, slotOf_of_lt hk]
  dsimp only
  rw [hr]
  exact if_pos ⟨ho, ht⟩

theorem matched_none {s : State} {o : Owner} {slot tag : Byte}
    (h : ∀ r, s.pool.find r.slot = some r → r.slot.val = slot.toNat → ¬ (r.owner = o ∧ r.tag = tag)) : s.matched o slot tag = none := by
  cases hm : s.matched o slot tag with
  | none => rfl
  | some r =>
    obtain ⟨hr, hslot, ho, ht⟩ := matched_some hm
    exact absurd ⟨ho, ht⟩ (h r hr hslot)

/-- A take command of the kind that waits next. -/
theorem exec_take {t : Time} {s : State} {o : Owner} {n : Nat} {x : Staged} (h : (s.arrive t).nextTake = some (o, n, x)) :
    exec (x.takenBy t) s = .next (((s.arrive t).removeHead o n).applyStaged o x) := by
  rw [exec_takenBy, h]
  dsimp only
  rw [if_pos rfl, take, h]

theorem freeSlot_eq {s : State} {k : Slot} {r : Record} (h : s.pool.find k = some r) :
    s.freeSlot k = (s.dropWaiting k).setPool { s.pool.unlink k with free := k :: s.pool.free } := by
  rw [freeSlot, Pool.freeRecord, h]
  rfl

/-- Settles O31. -/
theorem takeWithdraw : Obligations.TakeWithdraw := by
  unfold Obligations.TakeWithdraw
  intro t o n w s a b refused hnext
  have hexec : exec (.takeWithdraw t) s = .next (b.applyWithdraw o w) := exec_take hnext
  refine ⟨fun hno => ?_, fun k r hk hr ho ht => ⟨fun hphase => ?_, fun hphase => ?_⟩⟩
  · rw [hexec, applyWithdraw, matched_none (by exact hno)]
    rfl
  · have hpending : r.isPending = false := Bool.eq_false_of_not_eq_true fun h => hphase (Record.not_pending h)
    rw [hexec, applyWithdraw, matched_of hk (by exact hr) ho ht]
    dsimp only
    rw [hpending]
    rfl
  · have hpending : r.isPending = true := by rw [Record.isPending, hphase]
    obtain ⟨-, hslot⟩ := Pool.find_some hr
    rw [hexec, applyWithdraw, matched_of hk (by exact hr) ho ht]
    dsimp only
    rw [hpending, if_pos rfl, hslot, ht, freeSlot_eq (by exact hr)]

/-! ### WITHDRAW_ANY and SCRUB_POOL (R49, R136) -/

/-- The slots of a list of records, put one after another in front of a list. -/
theorem foldl_push (rs : List Record) (free : List Slot) :
    rs.foldl (fun free r => r.slot :: free) free = (rs.map fun r => r.slot).reverse ++ free := by
  induction rs generalizing free with
  | nil => rfl
  | cons r rs ih => rw [List.foldl_cons, ih]; simp

theorem scrub_eq (p : Pool) : p.scrub
    = { p with free := p.quarantine.foldl (fun free r => r.slot :: free) p.free, quarantine := [] } := by
  rw [foldl_push]
  rfl

/-- Settles O38. -/
theorem withdrawAnyAndScrub : Obligations.WithdrawAnyAndScrub := by
  unfold Obligations.WithdrawAnyAndScrub
  refine ⟨?_, ?_⟩
  · intro t slot s a hl
    have htake {u : State} {x : Status} {d : Data} (h : a.withdrawAny slot = (u, x, d)) :
        exec (.withdrawAny t .supervisor slot) s = .next (u.respond .supervisor x 0x23 d) :=
      next_onFrame (n := .withdrawAny) (act := fun s => s.withdrawAny slot) hl rfl h
    refine ⟨fun hbad => htake ?_, fun k hk => ⟨fun hnone => htake ?_, fun r hr => ⟨fun hfiring => htake ?_, fun hidle => htake ?_⟩⟩⟩
    · rw [withdrawAny, slotOf_of_gt hbad]
      rfl
    · rw [withdrawAny, slotOf_of_lt hk]
      dsimp only
      rw [hnone]
      rfl
    · rw [withdrawAny, slotOf_of_lt hk]
      dsimp only
      rw [hr]
      exact if_pos hfiring
    · obtain ⟨-, hslot⟩ := Pool.find_some hr
      have hbyte : byte k.val = slot := by rw [hk]; exact BitVec.eq_of_toNat_eq (Nat.mod_eq_of_lt slot.isLt)
      rw [withdrawAny, slotOf_of_lt hk]
      dsimp only
      rw [hr]
      dsimp only
      rw [hidle, if_neg (by decide), data_five_bytes, hbyte, reportDisplaced, hslot, freeSlot_eq hr]
      rfl
  · intro t s a hl
    refine next_onFrame (n := .scrubPool) (act := fun s => s.scrubPool) hl rfl ?_
    rw [scrubPool, data_byte]
    exact congrArg (fun p : Pool => (a.setPool p, Status.ok, _)) (scrub_eq a.pool)

/-! ### SET_FAULT_MASK (R142) -/

theorem endUnstarted_fire (s : State) (k : Slot) (o : Outcome) : (s.endUnstarted k o).drivers.fire = s.drivers.fire := by
  unfold endUnstarted
  cases hr : s.pool.find k with
  | none => rw [endOpportunity, hr]
  | some r =>
    rw [endOpportunity_drivers hr]
    rfl

theorem suppressReleased_eq_or (s : State) (k : Slot) (cause : SuppressCause) :
    s.suppressReleased k cause = s ∨ s.suppressReleased k cause = s.endUnstarted k (.suppressed cause) := by
  unfold suppressReleased
  split
  · split
    · exact .inr rfl
    · exact .inl rfl
  · exact .inl rfl

/-- A report goes to the log of a request link (R122). -/
theorem endUnstarted_supervisor (s : State) (k : Slot) (o : Outcome) :
    (s.endUnstarted k o).links.supervisor = s.links.supervisor := by
  unfold endUnstarted
  cases hr : s.pool.find k with
  | none => rw [endOpportunity, hr]
  | some r =>
    by_cases hcalled : reportCalled o r r.shortened = true
    · rw [endOpportunity_links_reported hr o _ _ _ _ hcalled, append]
      split <;> cases r.owner <;> rfl
    · rw [endOpportunity_links_silent hr o _ _ _ _ hcalled]

theorem overspeedSweep_fire (s : State) : s.overspeedSweep.drivers.fire = s.drivers.fire :=
  foldl_keeps _ (fun s : State => s.drivers.fire) (fun s k => by
    obtain h | h := suppressReleased_eq_or s k .overspeed
    · rw [h]
    · rw [h, endUnstarted_fire]) _ s

theorem overspeedSweep_supervisor (s : State) : s.overspeedSweep.links.supervisor = s.links.supervisor :=
  foldl_keeps _ (fun s : State => s.links.supervisor) (fun s k => by
    obtain h | h := suppressReleased_eq_or s k .overspeed
    · rw [h]
    · rw [h, endUnstarted_supervisor]) _ s

/-- The cylinders of a list disabled one after another: of the whole state the enable mask alone changes. -/
theorem foldl_disableCylinder (cs : List Cylinder) (s : State) :
    ∃ enables, cs.foldl (fun s c => s.disableCylinder c) s = s.setLimits { s.limits with enables := enables }
      ∧ ∀ c : Cylinder, inMask enables c = (s.enabled c && !cs.contains c) := by
  induction cs generalizing s with
  | nil => exact ⟨s.limits.enables, rfl, fun c => by simp [enabled]⟩
  | cons d cs ih =>
    obtain ⟨enables, heq, hbits⟩ := ih (s.disableCylinder d)
    refine ⟨enables, heq, fun c => ?_⟩
    have hstep : (s.disableCylinder d).enabled c = (s.enabled c && !decide (c = d)) := by
      have hlt := c.isLt
      simp only [enabled, disableCylinder, setLimits_limits, inMask, BitVec.getLsbD_and, BitVec.getLsbD_not, fireBit]
      simp
    rw [hbits, hstep, List.contains_cons, beq_eq_decide, Bool.and_assoc, Bool.not_or]

/-- The effect of the change of the INJECTOR_WATCH mask bit (R133, R142). -/
theorem unmaskInjectorWatch_eq (s : State) (before : Bool) :
    ∃ enables, s.unmaskInjectorWatch before = s.setLimits { s.limits with enables := enables }
      ∧ ∀ c : Cylinder, inMask enables c = (s.enabled c
        && !((before && !s.masked .injectorWatch && s.faultPending .injectorWatch) && s.configured.contains c
          && (s.table.get c).streak == 3)) := by
  unfold unmaskInjectorWatch
  split
  · next h =>
    obtain ⟨enables, heq, hbits⟩ :=
      foldl_disableCylinder (s.configured.filter fun c => (s.table.get c).streak == Config.streakLimit) s
    refine ⟨enables, heq, fun c => ?_⟩
    have hmem : (s.configured.filter fun c => (s.table.get c).streak == Config.streakLimit).contains c
        = (s.configured.contains c && (s.table.get c).streak == 3) := by
      rw [Bool.eq_iff_iff]
      simp [Config.streakLimit]
    rw [hbits, hmem, h, Bool.true_and]
  · next h =>
    refine ⟨s.limits.enables, rfl, fun c => ?_⟩
    rw [Bool.eq_false_of_not_eq_true h]
    simp [enabled]

/-- Settles O39. -/
theorem setFaultMask : Obligations.SetFaultMask := by
  unfold Obligations.SetFaultMask
  intro t written s a m opens sweeps disables swept hl
  have hopens (u : State) (hu : u.faults.mask = m) (k : FaultKind) : (a.masked k && !u.masked k) = opens (k.code - 1) := by
    rw [masked_eq_bit, masked_eq_bit, hu]
  obtain ⟨enables, hwatch, hbits⟩ := unmaskInjectorWatch_eq (a.remasked m) (a.masked .injectorWatch)
  have hremasked : a.remasked m
      = if sweeps then (a.setFaults { a.faults with mask := m }).overspeedSweep else a.setFaults { a.faults with mask := m } := by
    rw [State.remasked, unmaskOverspeed, hopens _ rfl]
    rfl
  have hfaults : (a.remasked m).faults = { a.faults with mask := m } := by
    rw [hremasked]
    split <;> simp
  have hkeeps {β : Type} (p : State → β) (hsweep : ∀ u : State, p u.overspeedSweep = p u)
      (hset : ∀ (u : State) x, p (u.setFaults x) = p u) : p (a.remasked m) = p a := by
    rw [hremasked]
    split
    · rw [hsweep, hset]
    · rw [hset]
  have hlimits := hkeeps State.limits overspeedSweep_limits (fun _ _ => rfl)
  refine ⟨(a.remasked m).setLimits { (a.remasked m).limits with enables := enables }, ?_, hfaults, fun hs hsweeps => ?_,
    fun hsweeps => ?_, fun c => ?_, ?_, ?_, ?_, ?_, ?_, ?_, ?_, ?_, ?_, ?_⟩
  · refine next_onFrame (n := .setFaultMask) (act := fun s => s.setFaultMask written) hl rfl ?_
    have hanswer (u : State) (hu : (a.remasked m).unmaskInjectorWatch (a.masked .injectorWatch) = u) :
        a.setFaultMask written = (u, .ok, dataOf (bytes2 u.faults.mask.toNat ++ bytes2 u.faults.pending.toNat)) := by
      rw [← hu]
      rfl
    refine (hanswer _ hwatch).trans ?_
    rw [flags_flags_data, setLimits_faults, hfaults]
  · have hsound : (a.setFaults { a.faults with mask := m }).timelineSound := hs
    have hswept : (a.setFaults { a.faults with mask := m }).overspeedSweep = swept := overspeedSweep_eq hsound
    rw [hremasked, if_pos hsweeps, hswept]
    exact ⟨rfl, rfl, rfl, hswept ▸ overspeedSweep_noneReleased hsound⟩
  · rw [hremasked, hsweeps]
    exact ⟨rfl, rfl, rfl⟩
  · have hdisables : (a.masked .injectorWatch && !(a.remasked m).masked .injectorWatch && (a.remasked m).faultPending .injectorWatch)
        = disables := by
      rw [hopens _ (by rw [hfaults]), faultPending_eq_bit, hfaults]
      rfl
    have henabled : (a.remasked m).enabled c = a.enabled c := by rw [enabled, hlimits]; rfl
    have hengine := hkeeps State.engine overspeedSweep_engine (fun _ _ => rfl)
    have hconfigured : (a.remasked m).configured = a.configured := by
      rw [State.configured, State.configured, geometry, geometry, hengine]
    have htable := hkeeps State.table overspeedSweep_table (fun _ _ => rfl)
    rw [← hdisables, ← henabled, ← hconfigured, ← htable]
    exact hbits c
  · rw [setLimits_limits, hlimits]
  · exact hkeeps (fun u => u.drivers.fire) overspeedSweep_fire (fun _ _ => rfl)
  · exact congrArg LinkPort.log (hkeeps (fun u => u.links.supervisor) overspeedSweep_supervisor (fun _ _ => rfl))
  · exact hkeeps State.clock overspeedSweep_clock (fun _ _ => rfl)
  · exact hkeeps State.marks overspeedSweep_marks (fun _ _ => rfl)
  · exact hkeeps State.table overspeedSweep_table (fun _ _ => rfl)
  · exact hkeeps State.staging overspeedSweep_staging (fun _ _ => rfl)
  · exact hkeeps State.engine overspeedSweep_engine (fun _ _ => rfl)
  · exact hkeeps State.timeBase overspeedSweep_timeBase (fun _ _ => rfl)
  · exact hkeeps State.pending overspeedSweep_pending (fun _ _ => rfl)

end Sys2Proof.Machine
end

section
/-! PROOF. The port resets (O25) and the soft reset (O26). -/

namespace Sys2Proof.Machine

open State

/-! ### Records freed in order (R50, R53, R54) -/

/-- A waiting list without the entries of some slots. -/
def BankDriver.without (x : BankDriver) (ks : List Slot) : BankDriver :=
  { x with waiting := x.waiting.filter fun e => !ks.contains e.slot }

/-- A pool without the records of some slots, which stand at the head of the free list, the last of them first. -/
def Pool.freed (p : Pool) (ks : List Slot) : Pool :=
  { p with
    free := ks.reverse ++ p.free
    lists := p.lists.map fun _ l => l.filter fun r => !ks.contains r.slot }

/-- Records of the pool freed one after another. -/
theorem freeSlots_eq {s : State} {ks : List Slot} (hnodup : ks.Nodup) (hfind : ∀ k ∈ ks, ∃ r, s.pool.find k = some r) :
    s.freeSlots ks = (s.setPool (s.pool.freed ks)).setDrivers
      { s.drivers with bankA := s.drivers.bankA.without ks, bankB := s.drivers.bankB.without ks } := by
  induction ks generalizing s with
  | nil =>
    have hmap : (s.pool.lists.map fun _ l => l.filter fun r => !([] : List Slot).contains r.slot) = s.pool.lists :=
      Eight.ext_get fun c => by simp
    have hlists : s.pool.freed [] = s.pool := by
      rw [Pool.freed, hmap]
      rfl
    have hbank (x : BankDriver) : x.without [] = x := by simp [BankDriver.without]
    rw [hlists, hbank, hbank]
    rfl
  | cons k ks ih =>
    obtain ⟨hk, hnodup⟩ := List.nodup_cons.mp hnodup
    obtain ⟨r, hr⟩ := hfind k List.mem_cons_self
    have hrest : ∀ j ∈ ks, ∃ r, (s.freeSlot k).pool.find j = some r := fun j hj => by
      have hne : j ≠ k := fun h => hk (h ▸ hj)
      obtain ⟨x, hx⟩ := hfind j (List.mem_cons_of_mem k hj)
      exact ⟨x, by rw [freeSlot, setPool_pool, Pool.find_freeRecord, if_neg hne, hx]⟩
    have hfilter {α : Type} (f : α → Slot) (l : List α) : (l.filter fun x => f x != k).filter (fun x => !ks.contains (f x))
        = l.filter fun x => !(k :: ks).contains (f x) := by
      rw [List.filter_filter]
      refine List.filter_congr fun x _ => ?_
      rw [List.contains_cons, Bool.not_or, Bool.and_comm]
      rfl
    have hbank (x : BankDriver) : ({ x with waiting := x.waiting.filter fun e => e.slot != k } : BankDriver).without ks
        = x.without (k :: ks) := by
      simp only [BankDriver.without, hfilter]
    have hpool : Pool.freed { s.pool.unlink k with free := k :: s.pool.free } ks = s.pool.freed (k :: ks) := by
      have hlists : ((s.pool.lists.map fun _ l => l.filter fun r => r.slot != k).map fun _ l => l.filter fun r => !ks.contains r.slot)
          = s.pool.lists.map fun _ l => l.filter fun r => !(k :: ks).contains r.slot :=
        Eight.ext_get fun c => by simp only [Eight.get_map, hfilter]
      simp only [Pool.freed, Pool.unlink, hlists, List.reverse_cons, List.append_assoc, List.singleton_append]
    have hstep : s.freeSlots (k :: ks) = (s.freeSlot k).freeSlots ks := rfl
    rw [hstep, ih hnodup hrest, freeSlot_eq hr, setPool_pool, hpool, ← hbank, ← hbank]
    rfl

/-- The slots of the records that meet a test. -/
theorem mem_slotsWhere {s : State} (hp : s.pool.slots.Nodup) (t : Record → Bool) {r : Record} (hr : r ∈ s.pool.records) :
    r.slot ∈ s.slotsWhere t ↔ t r = true := by
  simp only [slotsWhere, List.mem_map, List.mem_filter]
  refine ⟨fun ⟨x, ⟨hx, ht⟩, hslot⟩ => ?_, fun h => ⟨r, ⟨hr, h⟩, rfl⟩⟩
  have hsame := (Pool.find_of_mem hp hx).symm.trans (hslot ▸ Pool.find_of_mem hp hr)
  exact Option.some.inj hsame ▸ ht

theorem slotsWhere_nodup {s : State} (hp : s.pool.slots.Nodup) (t : Record → Bool) : (s.slotsWhere t).Nodup :=
  List.Nodup.sublist (List.Sublist.map _ List.filter_sublist) hp

theorem slotsWhere_find {s : State} (hp : s.pool.slots.Nodup) (t : Record → Bool) {k : Slot} (hk : k ∈ s.slotsWhere t) :
    ∃ r, s.pool.find k = some r ∧ t r = true := by
  obtain ⟨r, hr, rfl⟩ := List.mem_map.mp hk
  obtain ⟨hr, ht⟩ := List.mem_filter.mp hr
  exact ⟨r, Pool.find_of_mem hp hr, ht⟩

/-- The lists after the records that meet a test are freed. -/
theorem freed_lists {s : State} (hp : s.pool.slots.Nodup) (t : Record → Bool) (c : Cylinder) :
    (s.pool.freed (s.slotsWhere t)).lists.get c = (s.pool.lists.get c).filter fun r => !t r := by
  simp only [Pool.freed, Eight.get_map]
  refine List.filter_congr fun r hr => ?_
  have hmem : r ∈ s.pool.records := (Pool.mem_records _ _).mpr ⟨c, hr⟩
  rw [Bool.eq_iff_iff]
  simp [mem_slotsWhere hp t hmem]

/-- A waiting list keeps the entries of the records that do not meet the test. -/
theorem without_slotsWhere {s : State} (hs : s.timelineSound) (b : Bank) {t : Record → Bool} {kept : Bool}
    (ht : ∀ r, r.isReleased = true → t r = !kept) :
    (s.drivers.get b).without (s.slotsWhere t) = { s.drivers.get b with waiting := if kept then (s.drivers.get b).waiting else [] } := by
  have hp := Pool.partitioned_slots_nodup hs.1
  have hentry : ∀ e ∈ (s.drivers.get b).waiting, (s.slotsWhere t).contains e.slot = !kept := fun e he => by
    obtain ⟨r, hr, hrel⟩ := released_of_waits hs (b := b) (List.mem_map_of_mem he)
    obtain ⟨hmem, hslot⟩ := Pool.find_some hr
    rw [Bool.eq_iff_iff, List.contains_iff_mem, ← hslot, mem_slotsWhere hp t hmem, ht r hrel]
  unfold BankDriver.without
  congr 1
  cases kept with
  | true => exact List.filter_eq_self.mpr fun e he => by rw [hentry e he]; rfl
  | false => exact List.filter_eq_nil_iff.mpr fun e he => by rw [hentry e he]; decide

theorem freeSlots_slotsWhere {s : State} (hs : s.timelineSound) {t : Record → Bool} {kept : Bool}
    (ht : ∀ r, r.isReleased = true → t r = !kept) :
    s.freeSlots (s.slotsWhere t) = (s.setPool (s.pool.freed (s.slotsWhere t))).setDrivers
      { s.drivers with
        bankA := { s.drivers.bankA with waiting := if kept then s.drivers.bankA.waiting else [] }
        bankB := { s.drivers.bankB with waiting := if kept then s.drivers.bankB.waiting else [] } } := by
  have hp := Pool.partitioned_slots_nodup hs.1
  rw [freeSlots_eq (slotsWhere_nodup hp t) fun k hk => (slotsWhere_find hp t hk).imp fun _ h => h.1,
    show s.drivers.bankA.without _ = _ from without_slotsWhere hs .bankA ht,
    show s.drivers.bankB.without _ = _ from without_slotsWhere hs .bankB ht]
  rfl

/-! ### The port resets (R75) -/

/-- The part of a port reset that is not the timeline's. -/
def State.clearedPort (s : State) (o : Owner) : State := ((s.clearPort o).clearLink o.link).freeMarks o.link

theorem resetRequestLink_eq {a : State} (hs : a.timelineSound) (o : Owner) :
    a.resetRequestLink o
      = let x := (a.clearedPort o).setPool
          { a.pool.freed (a.slotsWhere (freedWithPort o)) with
            lists := (a.pool.freed (a.slotsWhere (freedWithPort o))).lists.map fun _ l =>
              l.map fun r => if r.owner = o then r.markFinal else r }
        if o = .fuel then x.clearCarry else x := by
  have hsound : (a.clearedPort o).timelineSound := hs
  have hkept : ∀ r : Record, r.isReleased = true → freedWithPort o r = !true := fun r hr => by
    have hpending : r.isPending = false := by
      cases h : r.isPending with
      | false => rfl
      | true => rw [Record.isReleased, Record.not_pending h] at hr; cases hr
    simp [freedWithPort, hpending]
  have hfreed := freeSlots_slotsWhere hsound hkept
  have hrecords : (a.clearedPort o).resetRecords o = (a.clearedPort o).setPool
      { a.pool.freed (a.slotsWhere (freedWithPort o)) with
        lists := (a.pool.freed (a.slotsWhere (freedWithPort o))).lists.map fun _ l =>
          l.map fun r => if r.owner = o then r.markFinal else r } := by
    have hsteps : (a.clearedPort o).resetRecords o = ((a.clearedPort o).freeSlots
        ((a.clearedPort o).slotsWhere (freedWithPort o))).mapRecords fun r => if r.owner = o then r.markFinal else r := rfl
    rw [hsteps, hfreed]
    rfl
  rw [resetRequestLink, ← hrecords]
  rfl

/-- What a port reset of a request link leaves (R19, R54, R61, R75, R104, R149, R154). -/
theorem resetRequestLink_after {a : State} (hs : a.timelineSound) (o : Owner) : State.afterPortReset a o (a.resetRequestLink o) := by
  have hp := Pool.partitioned_slots_nodup hs.1
  have hmarks (i : MarkIndex) : (a.clearedPort o).marks.get i = (a.marks.get i).filter fun u => u.owner != o.link := by
    have hget : (a.clearedPort o).marks.get i = match a.marks.get i with
        | some u => if u.owner = o.link then none else some u
        | none => none := Eight.get_map _ _ _
    rw [hget]
    cases a.marks.get i with
    | none => rfl
    | some u => by_cases h : u.owner = o.link <;> simp [Option.filter, h]
  have hlists := freed_lists hp (freedWithPort o)
  rw [resetRequestLink_eq hs]
  refine ⟨⟨?_, ?_, ?_, ?_, ?_, ?_, ?_⟩, ?_, ?_, fun p => ?_, fun l => ?_, fun i => ?_, fun c => ?_, fun c => ?_, ?_⟩
  all_goals dsimp only
  case refine_10 => cases o <;> cases p <;> rfl
  case refine_11 => cases o <;> cases l <;> rfl
  case refine_12 => cases o <;> exact hmarks i
  case refine_13 =>
    cases o
    · exact Eight.get_map _ _ _
    · rfl
  case refine_14 =>
    rw [← hlists c]
    cases o <;> exact Eight.get_map _ _ _
  all_goals cases o <;> rfl

/-- Settles O25. -/
theorem portResets : Obligations.PortResets := by
  unfold Obligations.PortResets
  refine ⟨?_, ?_⟩
  · intro t o s a n hs
    refine ⟨a.resetRequestLink o, resetRequestLink_after hs o, fun hl => ?_, fun hl => ?_⟩
    · refine next_onFrame (n := .portReset) (act := fun s => s.portReset o.link) hl (by cases o <;> rfl) ?_
      rw [portReset, requestLink_link]
      dsimp only
      rw [data_byte]
      rfl
    · refine next_onFrame (n := .resetPort) (act := fun s => s.resetPort (match o with | .fuel => 1 | .thermal => 2)) hl rfl ?_
      cases o <;> exact congrArg (fun d => (_, Status.ok, d)) (data_byte _)
  · intro t target s a hl
    refine ⟨next_onFrame (n := .portReset) (act := fun s => s.portReset .supervisor) hl rfl rfl, fun h1 h2 => ?_⟩
    refine next_onFrame (n := .resetPort) (act := fun s => s.resetPort target) hl rfl ?_
    have hnone : targetOf target = none := by rw [targetOf, if_neg h1, if_neg h2]
    rw [resetPort, hnone]
    rfl

/-! ### The soft reset (R139) -/

/-- The part of a soft reset that is not the timeline's. -/
def State.clearedAll (s : State) : State :=
  (((((s.clearPort .fuel).clearPort .thermal).clearLink .fuel).clearLink .thermal).clearLink .supervisor).setMarks (Eight.all none)

theorem clearedAll_sound {a : State} (hs : a.timelineSound) : a.clearedAll.timelineSound := by
  have hports : ((a.clearPort .fuel).clearPort .thermal).timelineSound := hs
  have hlinks : ((((a.clearPort .fuel).clearPort .thermal).clearLink .fuel).clearLink .thermal).timelineSound := hports
  exact hlinks

theorem softResetAll_eq {a : State} (hs : a.timelineSound) :
    a.softResetAll = (((a.clearedAll.setPool
      { a.pool.freed (a.slotsWhere fun r => !r.isFiring) with
        lists := (a.pool.freed (a.slotsWhere fun r => !r.isFiring)).lists.map fun _ l => l.map Record.markFinal }).setDrivers
      { a.drivers with bankA := { a.drivers.bankA with waiting := [] }, bankB := { a.drivers.bankB with waiting := [] } }).clearCarry) := by
  have hsound : a.clearedAll.timelineSound := clearedAll_sound hs
  have hdropped : ∀ r : Record, r.isReleased = true → (!r.isFiring) = !false := fun r hr => by
    rw [not_isFiring_of_isReleased hr]
  have hsteps : a.softResetAll = ((a.clearedAll.freeSlots (a.clearedAll.slotsWhere fun r => !r.isFiring)).mapRecords
      Record.markFinal).clearCarry := rfl
  have hpool : a.clearedAll.pool = a.pool := by simp [clearedAll, clearPort, clearLink]
  have hdrivers : a.clearedAll.drivers = a.drivers := by simp [clearedAll, clearPort, clearLink]
  have hslots : (a.clearedAll.slotsWhere fun r => !r.isFiring) = a.slotsWhere fun r => !r.isFiring := by
    rw [slotsWhere, slotsWhere, hpool]
  rw [hsteps, freeSlots_slotsWhere hsound hdropped, hslots, hpool, hdrivers]
  rfl

/-- Settles O26. -/
theorem softReset : Obligations.SoftReset := by
  unfold Obligations.SoftReset
  intro t s a hl hs
  have hp := Pool.partitioned_slots_nodup hs.1
  have hlists := freed_lists hp fun r => !r.isFiring
  refine ⟨a.softResetAll, ?_, ?_⟩
  · rw [softResetAll_eq hs]
    have hstaging (p : Owner) : a.clearedAll.staging.get p = { a.staging.get p with state := .quiet, queue := [] } := by
      cases p <;> rfl
    have hlinks (l : Link) : a.clearedAll.links.get l = { a.links.get l with log := [], sticky := 0 } := by
      cases l <;> simp [clearedAll, clearPort, clearLink]
    have hrun : a.clearedAll.staging.fuelRun = 0 := rfl
    refine ⟨⟨?_, ?_, ?_, ?_, ?_, rfl, ?_⟩, rfl, hrun, fun x => ?_, hstaging, hlinks, fun i => ?_, fun c => ?_, fun c => ?_, rfl⟩
    case refine_1 | refine_2 | refine_3 | refine_4 | refine_5 | refine_6 => simp [clearedAll, clearPort, clearLink, clearCarry]
    · cases x <;> rfl
    · simp [clearedAll, clearCarry]
    · simp [clearedAll, clearPort, clearLink, clearCarry]
    · have hfiring : (a.pool.lists.get c).filter Record.isFiring = (a.pool.lists.get c).filter fun r => !!r.isFiring := by
        simp only [Bool.not_not]
      rw [hfiring, ← hlists c]
      exact Eight.get_map _ _ _
  · refine next_onFrame (n := .softReset) (act := fun s => s.softReset) hl rfl ?_
    rw [State.softReset, data_two_bytes]
    rfl

end Sys2Proof.Machine
end

section
/-! PROOF. CONFIG_WRITE (O41) and COMMIT_CONFIG (O43). -/

namespace Sys2Proof.Machine

open State

/-! ### Written values (R165, R167) -/

theorem dataWord_zero (value : Data) : dataWord value 0 = (value.extractLsb' 56 16).toNat := by
  simp only [dataWord, dataByte, BitVec.extractLsb'_toNat, Nat.shiftRight_eq_div_pow]
  omega

theorem dataWord_two (value : Data) : dataWord value 2 = (value.extractLsb' 40 16).toNat := by
  simp only [dataWord, dataByte, BitVec.extractLsb'_toNat, Nat.shiftRight_eq_div_pow]
  omega

theorem dataSigned_zero (value : Data) : dataSigned value 0 = (value.extractLsb' 56 16).toInt := by
  rw [dataSigned, dataWord_zero, BitVec.ofNat_toNat, BitVec.setWidth_eq]

theorem dataSigned_two (value : Data) : dataSigned value 2 = (value.extractLsb' 40 16).toInt := by
  rw [dataSigned, dataWord_two, BitVec.ofNat_toNat, BitVec.setWidth_eq]

theorem windowOf_eq (value : Data) :
    windowOf value = if -5760 ≤ (value.extractLsb' 56 16).toInt ∧ (value.extractLsb' 56 16).toInt ≤ 5759
        ∧ -5760 ≤ (value.extractLsb' 40 16).toInt ∧ (value.extractLsb' 40 16).toInt ≤ 5759 then
      some { lo := (value.extractLsb' 56 16).toInt, hi := (value.extractLsb' 40 16).toInt } else none := by
  rw [windowOf, dataSigned_zero, dataSigned_two]

theorem orderEntry_of_eq {b : Byte} {e : Fin 9} (h : e.val = b.toNat) : orderEntry b = some e := by
  rw [orderEntry, dif_pos (h ▸ e.isLt)]
  exact congrArg some (Fin.ext h.symm)

theorem orderEntry_of_gt {b : Byte} (h : 8 < b.toNat) : orderEntry b = none := dif_neg (by omega)

theorem orderOf_of_eq {value : Data} {order : Vector (Fin 9) 8} (h : ∀ i : Fin 8, (order.get i).val = (dataByte value i.val).toNat) :
    orderOf value = some order := by
  have hentry (i : Fin 8) : orderEntry (dataByte value i.val) = some (order.get i) := orderEntry_of_eq (h i)
  have horder : #v[order.get 0, order.get 1, order.get 2, order.get 3, order.get 4, order.get 5, order.get 6, order.get 7] = order := by
    refine Vector.ext fun i hi => ?_
    interval_cases i <;> rfl
  have h0 := hentry 0
  have h1 := hentry 1
  have h2 := hentry 2
  have h3 := hentry 3
  have h4 := hentry 4
  have h5 := hentry 5
  have h6 := hentry 6
  have h7 := hentry 7
  simp only [Fin.val_zero, Fin.val_one, Fin.val_two, Fin.isValue] at h0 h1 h2
  rw [orderOf, h0, h1, h2, show orderEntry (dataByte value 3) = _ from h3, show orderEntry (dataByte value 4) = _ from h4,
    show orderEntry (dataByte value 5) = _ from h5, show orderEntry (dataByte value 6) = _ from h6,
    show orderEntry (dataByte value 7) = _ from h7]
  exact congrArg some horder

theorem orderOf_none {value : Data} {i : Fin 8} (h : 8 < (dataByte value i.val).toNat) : orderOf value = none := by
  have hentry := orderEntry_of_gt h
  unfold orderOf
  fin_cases i <;> simp_all

/-- An item of one number: written when it is in its range. -/
theorem inRange_map {lo hi n : Nat} (f : Nat → EngineConfig) :
    (inRange lo hi n).map f = if lo ≤ n ∧ n ≤ hi then some (f n) else none := by
  unfold inRange
  split <;> rfl

theorem inRange_pair {hi n m : Nat} (f : Nat → Nat → EngineConfig) :
    ((inRange 0 hi n).bind fun a => (inRange 0 hi m).map (f a)) = if n ≤ hi ∧ m ≤ hi then some (f n m) else none := by
  unfold inRange
  by_cases hn : n ≤ hi <;> by_cases hm : m ≤ hi <;> simp [hn, hm]

theorem windowOf_map (value : Data) (f : Window → EngineConfig) :
    (windowOf value).map f = if -5760 ≤ (value.extractLsb' 56 16).toInt ∧ (value.extractLsb' 56 16).toInt ≤ 5759
        ∧ -5760 ≤ (value.extractLsb' 40 16).toInt ∧ (value.extractLsb' 40 16).toInt ≤ 5759 then
      some (f { lo := (value.extractLsb' 56 16).toInt, hi := (value.extractLsb' 40 16).toInt }) else none := by
  rw [windowOf_eq]
  split <;> rfl

theorem write_of_bad (c : EngineConfig) {item : Byte} (h : item = 0 ∨ 18 < item.toNat) (value : Data) :
    c.write item.toNat value = none := by
  unfold EngineConfig.write
  split
  case h_19 => rfl
  all_goals
    next hitem =>
    rcases h with h | h
    · rw [h] at hitem
      cases hitem
    · omega

/-! ### CONFIG_WRITE (R167) -/

theorem data_item (x : Byte) : dataOf [x, byte 0] = x ++ 0#64 := by
  have hx := x.isLt
  refine dataOf_eq ?_
  simp only [toNat_append_add]
  simp [toNat_byte]

theorem configRefusal_running {s : State} (h : s.clock.sync ≠ .stopped) : s.configRefusal = some .engineRunning := if_pos h

theorem configRefusal_busy {s : State} (h : s.clock.sync = .stopped) (hrecords : s.pool.records ≠ []) :
    s.configRefusal = some .timelineBusy := by
  rw [configRefusal, if_neg (by simp [h]), if_pos hrecords]

theorem configRefusal_allowed {s : State} (h : s.clock.sync = .stopped) (hrecords : s.pool.records = []) :
    s.configRefusal = none := by
  rw [configRefusal, if_neg (by simp [h]), if_neg (by simp [hrecords])]

/-- Settles O41. -/
theorem configWrite : Obligations.ConfigWrite := by
  unfold Obligations.ConfigWrite
  intro t value s a c byte word word2 lo hi entry refused takes ranged steps hl
  have htake {item : Byte} {u : State} {x : Status} {d : Data} (h : a.configWrite item value = (u, x, d)) :
      exec (.configWrite t .supervisor item value) s = .next (u.respond .supervisor x 0x2C d) :=
    next_onFrame (n := .configWrite) (act := fun s => s.configWrite item value) hl rfl h
  refine ⟨fun item hrunning => htake ?_, fun item hstopped hbusy => htake ?_, fun hstopped hempty => ?_⟩
  · rw [State.configWrite, configRefusal_running hrunning]
    rfl
  · rw [State.configWrite, configRefusal_busy hstopped hbusy]
    rfl
  · have hallowed := configRefusal_allowed hstopped hempty
    have hrefused {item : Byte} (h : c.write item.toNat value = none) : refused item .badArgument := htake <| by
      rw [State.configWrite, hallowed]
      dsimp only
      rw [h]
      rfl
    have htakes {item : Byte} {x : EngineConfig} (h : c.write item.toNat value = some x) : takes item x := htake <| by
      rw [State.configWrite, hallowed]
      dsimp only
      rw [h]
      exact congrArg (fun d => (_, Status.ok, d)) (data_item item)
    have hranged {item : Byte} {inside : Prop} [Decidable inside] {x : EngineConfig}
        (h : c.write item.toNat value = if inside then some x else none) : ranged item inside x :=
      ⟨fun hin => htakes (h.trans (if_pos hin)), fun hout => hrefused (h.trans (if_neg hout))⟩
    have hwordItem {item : Byte} (lo hi : Nat) (f : Nat → EngineConfig) {inside : Prop}
        (h : c.write item.toNat value = (inRange lo hi (dataWord value 0)).map f) (hinside : lo ≤ word ∧ word ≤ hi ↔ inside) :
        ranged item inside (f word) := by
      classical
      rw [dataWord_zero, inRange_map] at h
      exact hranged (h.trans (if_congr hinside rfl rfl))
    have hbyteItem {item : Byte} (lo hi : Nat) (f : Nat → EngineConfig) {inside : Prop}
        (h : c.write item.toNat value = (inRange lo hi byte).map f) (hinside : lo ≤ byte ∧ byte ≤ hi ↔ inside) :
        ranged item inside (f byte) := by
      classical
      rw [inRange_map] at h
      exact hranged (h.trans (if_congr hinside rfl rfl))
    have hlow : 0 ≤ word ∧ word ≤ 11519 ↔ word ≤ 11519 := ⟨fun h => h.2, fun h => ⟨Nat.zero_le _, h⟩⟩
    refine ⟨fun item hbad => hrefused (write_of_bad c hbad value), ?_, fun order h => htakes ?_, fun i h => hrefused ?_, htakes rfl,
      hwordItem 0 11519 (fun n => { c with tdc1 := n }) rfl hlow, hranged ?_,
      hwordItem 288 960 (fun n => { c with lead := n }) rfl Iff.rfl, hwordItem 1000 4000 (fun n => { c with speed := n }) rfl Iff.rfl,
      hwordItem 20 2000 (fun n => { c with minDwell := n }) rfl Iff.rfl,
      hwordItem 10 500 (fun n => { c with bankRecovery := n }) rfl Iff.rfl,
      hwordItem 0 500 (fun n => { c with maxSlip := n }) rfl ⟨fun h => h.2, fun h => ⟨Nat.zero_le _, h⟩⟩,
      hwordItem 50 1000 (fun n => { c with peakDeadline := n }) rfl Iff.rfl,
      hwordItem 50 1000 (fun n => { c with stallTimeout := n }) rfl Iff.rfl,
      hranged (windowOf_map value fun w => { c with preWindow := w }), hranged (windowOf_map value fun w => { c with mainWindow := w }),
      hranged (windowOf_map value fun w => { c with afterWindow := w }), hranged (windowOf_map value fun w => { c with lateWindow := w }),
      hbyteItem 1 6 (fun n => { c with cap := n }) rfl Iff.rfl,
      hbyteItem 0 15 (fun n => { c with carryLimit := n }) rfl ⟨fun h => h.2, fun h => ⟨Nat.zero_le _, h⟩⟩⟩
    · exact hranged (if_congr (by simp [byte, dataByte]) rfl rfl)
    · exact congrArg (Option.map fun o => { c with firingOrder := o }) (orderOf_of_eq h)
    · exact congrArg (Option.map fun o => { c with firingOrder := o }) (orderOf_none h)
    · refine (inRange_pair fun lo hi => { c with camLo := lo, camHi := hi }).trans ?_
      rw [dataWord_zero, dataWord_two]

/-! ### The firing order (R27, R170) -/

theorem cylinderOf_isSome_iff {n : Nat} : (cylinderOf n).isSome ↔ 1 ≤ n ∧ n ≤ 8 := by
  unfold cylinderOf
  split <;> simp_all

theorem cylinderNumber_of_cylinderOf {n : Nat} {x : Cylinder} (h : cylinderOf n = some x) : cylinderNumber x = n := by
  unfold cylinderOf at h
  split at h
  · cases h
    simp only [cylinderNumber]
    omega
  · cases h

theorem filterMap_cylinderOf {l : List Nat} (h : ∀ n ∈ l, 1 ≤ n ∧ n ≤ 8) : (l.filterMap cylinderOf).map cylinderNumber = l := by
  induction l with
  | nil => rfl
  | cons n l ih =>
    obtain ⟨x, hx⟩ := Option.isSome_iff_exists.mp (cylinderOf_isSome_iff.mpr (h n List.mem_cons_self))
    rw [List.filterMap_cons_some hx, List.map_cons, cylinderNumber_of_cylinderOf hx,
      ih fun m hm => h m (List.mem_cons_of_mem n hm)]

theorem orderOk_iff (c : EngineConfig) :
    c.orderOk = true ↔ ∀ k, 1 ≤ k → k ≤ c.cylinderCount → c.orderNumbers.count k = 1 := by
  simp only [EngineConfig.orderOk, List.all_eq_true, List.mem_range, beq_iff_eq]
  refine ⟨fun h k h1 hn => ?_, fun h i hi => h (i + 1) (by omega) (by omega)⟩
  have hk := h (k - 1) (by omega)
  rwa [Nat.sub_add_cancel h1] at hk

theorem banksOk_iff (c : EngineConfig) :
    c.banksOk = true ↔ (∃ i, i < c.cylinderCount ∧ c.bankMap.getLsbD i = true) ∧
      ∃ i, i < c.cylinderCount ∧ c.bankMap.getLsbD i = false := by
  simp [EngineConfig.banksOk]

theorem camOk_iff (c : EngineConfig) :
    c.camOk = true ↔ 1 ≤ modCycle ((c.camHi : Int) - c.camLo) ∧ modCycle ((c.camHi : Int) - c.camLo) ≤ 5759 := by
  rw [EngineConfig.camOk, Bool.and_eq_true, decide_eq_true_iff, decide_eq_true_iff]
  rfl

/-- A consistent firing order holds the numbers 1 to N, each once. -/
theorem orderNumbers_perm {c : EngineConfig} (h : c.orderOk = true) :
    c.orderNumbers.Perm (List.range' 1 c.cylinderCount) := by
  have hsub : (List.range' 1 c.cylinderCount).Subperm c.orderNumbers := by
    rw [List.subperm_ext_iff]
    intro k hk
    rw [List.mem_range'_1] at hk
    rw [List.count_eq_one_of_mem List.nodup_range' (List.mem_range'_1.mpr hk),
      (orderOk_iff c).mp h k hk.1 (by omega)]
  refine (hsub.perm_of_length_le ?_).symm
  simp [EngineConfig.orderNumbers]

theorem order_numbers {c : EngineConfig} (hn : c.cylinderCount ≤ 8) (h : c.orderOk = true) :
    c.order.map cylinderNumber = c.orderNumbers := by
  refine filterMap_cylinderOf fun k hk => ?_
  have hmem := List.mem_range'_1.mp ((orderNumbers_perm h).mem_iff.mp hk)
  omega

theorem order_nodup {c : EngineConfig} (hn : c.cylinderCount ≤ 8) (h : c.orderOk = true) : c.order.Nodup := by
  refine List.Nodup.of_map cylinderNumber ?_
  rw [order_numbers hn h]
  exact (orderNumbers_perm h).nodup_iff.mpr List.nodup_range'

theorem span_eq (pw d : Nat) : span pw d = (d * 96 + (pw - 1)) / pw := by
  rcases Nat.eq_zero_or_pos pw with h | h
  · simp [span, h]
  · rw [span, Nat.add_sub_assoc h]
    rfl

theorem entry_of_position {c : EngineConfig} (hn : c.cylinderCount = 4 ∨ c.cylinderCount = 6 ∨ c.cylinderCount = 8)
    (h : c.orderOk = true) {p : Nat} {x : Cylinder} (hx : c.order[p]? = some x) (e : CylinderStatus) :
    c.entry x e =
      { bank := some (if c.bankMap.getLsbD x.val then .bankB else .bankA)
        tdc := (c.tdc1 + p * (11520 / c.cylinderCount)) % 11520
        released := 0, fired := 0, lastFired := 0, carry := none, carryCount := 0, streak := e.streak } := by
  have hmem := List.mem_of_getElem? hx
  obtain ⟨hp, rfl⟩ := List.getElem?_eq_some_iff.mp hx
  have hpos : c.order.idxOf c.order[p] = p := (order_nodup (by omega) h).idxOf_getElem p hp
  have hstep : tdcAt c.tdc1 p c.cylinderCount = (c.tdc1 + p * (11520 / c.cylinderCount)) % 11520 := by
    unfold tdcAt Config.cycleSteps
    rcases hn with h4 | h4 | h4 <;> rw [h4] <;> omega
  simp [EngineConfig.entry, hmem, hpos, hstep, inMask]

theorem entry_of_unconfigured {c : EngineConfig} (hn : c.cylinderCount ≤ 8) (h : c.orderOk = true) {x : Cylinder}
    (hx : c.cylinderCount < cylinderNumber x) (e : CylinderStatus) :
    c.entry x e = { bank := none, tdc := 0, released := 0, fired := 0, lastFired := 0, carry := none, carryCount := 0,
                    streak := e.streak } := by
  have hmem : x ∉ c.order := fun hmem => by
    have hin : cylinderNumber x ∈ c.orderNumbers := order_numbers hn h ▸ List.mem_map_of_mem hmem
    have hrange := List.mem_range'_1.mp ((orderNumbers_perm h).mem_iff.mp hin)
    omega
  simp [EngineConfig.entry, hmem]

/-! ### COMMIT_CONFIG (R170) -/

/-- Settles O43. -/
theorem commitConfig : Obligations.CommitConfig := by
  unfold Obligations.CommitConfig
  intro t s a c n entries answers inconsistent order banks cam open' pw hl hn
  have htake {u : State} {x : Status} {d : Data} (h : a.commitConfig = (u, x, d)) : answers u x d :=
    next_onFrame (n := .commitConfig) (act := fun s => s.commitConfig) hl rfl h
  refine ⟨fun hrunning => htake ?_, fun hstopped hbusy => htake ?_, fun hstopped hempty => ?_⟩
  · rw [State.commitConfig, configRefusal_running hrunning]
    rfl
  · rw [State.commitConfig, configRefusal_busy hstopped hbusy]
    rfl
  · have hallowed := configRefusal_allowed hstopped hempty
    have hfails {item : Nat} (h : c.inconsistent = some item) : inconsistent (byte item) := htake <| by
      rw [State.commitConfig, hallowed]
      dsimp only
      rw [h]
      exact congrArg (fun d => (_, Status.configInconsistent, d)) (data_byte (byte item))
    have hokOrder (h : order) : c.orderOk = true := (orderOk_iff c).mpr h
    have hokBanks (h : banks) : c.banksOk = true := (banksOk_iff c).mpr h
    have hokCam (h : cam) : c.camOk = true := (camOk_iff c).mpr h
    have hopen {w : Window} (h : open' w) : ¬ w.hi < w.lo := not_lt.mpr h
    have hshut {w : Window} (h : ¬ open' w) : w.hi < w.lo := not_le.mp h
    refine ⟨fun h => hfails ?_, fun h1 h => hfails ?_, fun h1 h2 h => hfails ?_, fun h1 h2 h3 h => hfails ?_,
      fun h1 h2 h3 h4 h => hfails ?_, fun h1 h2 h3 h4 h5 h => hfails ?_, fun h1 h2 h3 h4 h5 h6 h => hfails ?_,
      fun h1 h2 h3 h4 h5 h6 h7 => ?_⟩
    · simp [EngineConfig.inconsistent, mt (orderOk_iff c).mp h]
    · simp [EngineConfig.inconsistent, hokOrder h1, mt (banksOk_iff c).mp h]
    · simp [EngineConfig.inconsistent, hokOrder h1, hokBanks h2, mt (camOk_iff c).mp h]
    · simp [EngineConfig.inconsistent, hokOrder h1, hokBanks h2, hokCam h3, hshut h]
    · simp [EngineConfig.inconsistent, hokOrder h1, hokBanks h2, hokCam h3, hopen h4, hshut h]
    · simp [EngineConfig.inconsistent, hokOrder h1, hokBanks h2, hokCam h3, hopen h4, hopen h5, hshut h]
    · simp [EngineConfig.inconsistent, hokOrder h1, hokBanks h2, hokCam h3, hopen h4, hopen h5, hopen h6, hshut h]
    · have hconsistent : c.inconsistent = none := by
        simp [EngineConfig.inconsistent, hokOrder h1, hokBanks h2, hokCam h3, hopen h4, hopen h5, hopen h6, hopen h7]
      have hsmall : c.cylinderCount ≤ 8 := by
        change n ≤ 8
        omega
      refine ⟨c.order, a.table.map c.entry, order_numbers hsmall (hokOrder h1), fun p x hx => ?_, fun x hx => ?_, htake ?_⟩
      · rw [Eight.get_map]
        exact entry_of_position hn (hokOrder h1) hx _
      · rw [Eight.get_map]
        exact entry_of_unconfigured hsmall (hokOrder h1) hx _
      · rw [State.commitConfig, hallowed]
        dsimp only
        rw [hconsistent, ← span_eq, ← span_eq]
        exact congrArg (fun d => (_, Status.ok, d)) (data_two_bytes 1 (byte n))

end Sys2Proof.Machine
end

section
/-! PROOF. CUT_NOW (O37): the records that it ends, bank by bank. -/

namespace Sys2Proof.Machine
open State

/-! ### Ended firing opportunities -/

/-- The records of some slots are ended: each is freed, or PENDING again for its cylinder; every other slot holds what it held. -/
structure Pool.Ended (ks : List Slot) (p q : Pool) : Prop where
  kept : ∀ j, j ∉ ks → q.find j = p.find j
  ended : ∀ j ∈ ks, ∀ x, q.find j = some x → x.phase = .pending ∧ ∃ r, p.find j = some r ∧ r.cylinder = x.cylinder

theorem Pool.Ended.nil (p : Pool) : Pool.Ended [] p p := ⟨fun _ _ => rfl, fun _ h => absurd h List.not_mem_nil⟩

theorem Pool.Ended.append {ks ls : List Slot} {p q x : Pool} (h : Pool.Ended ks p q) (h' : Pool.Ended ls q x) :
    Pool.Ended (ks ++ ls) p x where
  kept j hj := by
    rw [List.mem_append, not_or] at hj
    rw [h'.kept j hj.2, h.kept j hj.1]
  ended j hj y hy := by
    by_cases hl : j ∈ ls
    · obtain ⟨hpending, r, hr, hc⟩ := h'.ended j hl y hy
      by_cases hk : j ∈ ks
      · obtain ⟨-, r', hr', hc'⟩ := h.ended j hk r hr
        exact ⟨hpending, r', hr', hc'.trans hc⟩
      · exact ⟨hpending, r, (h.kept j hk).symm.trans hr, hc⟩
    · rw [h'.kept j hl] at hy
      exact h.ended j ((List.mem_append.mp hj).resolve_right hl) y hy

theorem Pool.Ended.releasedAt {ks : List Slot} {p q : Pool} (h : Pool.Ended ks p q) (j : Slot) :
    q.releasedAt j = if j ∈ ks then none else p.releasedAt j := by
  split
  · next hj => exact releasedAt_eq_none fun r hr => isReleased_of_pending (h.ended j hj r hr).1
  · next hj => rw [Pool.releasedAt, h.kept j hj, Pool.releasedAt]

theorem Pool.Ended.firingAt {ks : List Slot} {p q : Pool} (h : Pool.Ended ks p q) (j : Slot) :
    q.firingAt j = if j ∈ ks then none else p.firingAt j := by
  split
  · next hj =>
    refine firingAt_eq_none fun r hr => ?_
    simp [Record.isFiring, (h.ended j hj r hr).1]
  · next hj => rw [Pool.firingAt, h.kept j hj, Pool.firingAt]

theorem endOpportunity_ended {s : State} {k : Slot} {r : Record} (h : s.pool.find k = some r) (o : Outcome)
    (cycle : Word16) (start : Option Time) (d : Nat) (noRise : Bool) :
    Pool.Ended [k] s.pool (s.endOpportunity k o cycle start d noRise).pool := by
  rw [endOpportunity_pool h]
  have hreturned (f : Record → Record) (hslot : ∀ r, (f r).slot = r.slot) (hpending : ∀ r, (f r).phase = .pending)
      (hcylinder : ∀ r, (f r).cylinder = r.cylinder) : Pool.Ended [k] s.pool (s.pool.update k f) := by
    refine ⟨fun j hj => ?_, fun j hj x hx => ?_⟩
    · rw [Pool.find_update s.pool k j hslot, if_neg (by simpa using hj)]
    · obtain rfl : j = k := List.mem_singleton.mp hj
      rw [Pool.find_update s.pool j j hslot, if_pos rfl, h] at hx
      obtain rfl : f r = x := Option.some.inj hx
      exact ⟨hpending r, r, h, (hcylinder r).symm⟩
  obtain ⟨-, heq⟩ | ⟨-, -, heq⟩ | ⟨-, -, heq⟩ := retire_cases s k r <;> rw [heq]
  · refine ⟨fun j hj => ?_, fun j hj x hx => ?_⟩
    · exact (Pool.find_freeRecord s.pool k j).trans (if_neg (by simpa using hj))
    · have hnone := (Pool.find_freeRecord s.pool k j).trans (if_pos (List.mem_singleton.mp hj))
      cases hnone.symm.trans hx
  · exact hreturned (fun r => { r with phase := .pending, repeats := r.repeats - 1 }.rechecked) (fun _ => rfl) (fun _ => rfl) fun _ => rfl
  · exact hreturned (fun r => { r with phase := .pending }) (fun _ => rfl) (fun _ => rfl) fun _ => rfl

theorem foldl_endUnstarted_ended {ks : List Slot} (o : Outcome) (hnodup : ks.Nodup) {s : State}
    (hks : ∀ k ∈ ks, ∃ r, s.pool.find k = some r) :
    Pool.Ended ks s.pool (ks.foldl (fun s k => s.endUnstarted k o) s).pool := by
  induction ks generalizing s with
  | nil => exact .nil s.pool
  | cons k ks ih =>
    obtain ⟨hk, hnodup⟩ := List.nodup_cons.mp hnodup
    obtain ⟨r, hr⟩ := hks k List.mem_cons_self
    have hone : Pool.Ended [k] s.pool (s.endUnstarted k o).pool := endOpportunity_ended hr _ _ _ _ _
    refine hone.append (ih hnodup fun j hj => ?_)
    have hne : j ∉ [k] := fun h => hk (List.mem_singleton.mp h ▸ hj)
    rw [hone.kept j hne]
    exact hks j (List.mem_cons_of_mem k hj)

/-! ### What the end of a firing opportunity leaves alone -/

/-- Nothing changes but the pool, the drivers, the links, the fired totals and the streaks. -/
structure State.Spares (s u : State) : Prop where
  steady : s.Steady u
  marks : u.marks = s.marks
  limits : u.limits = s.limits
  faults : u.faults = s.faults
  table : ∀ c, (u.table.get c).carry = (s.table.get c).carry ∧ (u.table.get c).released = (s.table.get c).released
    ∧ (u.table.get c).bank = (s.table.get c).bank

theorem State.Spares.refl (s : State) : s.Spares s := ⟨.refl s, rfl, rfl, rfl, fun _ => ⟨rfl, rfl, rfl⟩⟩

theorem State.Spares.trans {s u v : State} (h : s.Spares u) (h' : u.Spares v) : s.Spares v where
  steady := h.steady.trans h'.steady
  marks := h'.marks.trans h.marks
  limits := h'.limits.trans h.limits
  faults := h'.faults.trans h.faults
  table c := by
    obtain ⟨hcarry, hreleased, hbank⟩ := h.table c
    obtain ⟨hcarry', hreleased', hbank'⟩ := h'.table c
    exact ⟨hcarry'.trans hcarry, hreleased'.trans hreleased, hbank'.trans hbank⟩

theorem State.Spares.bankOf {s u : State} (h : s.Spares u) : u.bankOf = s.bankOf := bankOf_congr fun c => (h.table c).2.2

theorem endOpportunity_spares (s : State) (k : Slot) (o : Outcome) (cycle : Word16) (start : Option Time) (d : Nat) (noRise : Bool) :
    s.Spares (s.endOpportunity k o cycle start d noRise) where
  steady := ⟨by simp, by simp, by simp, by simp, by simp⟩
  marks := by simp
  limits := by simp
  faults := by simp
  table c := by simp

theorem foldl_endUnstarted_spares (ks : List Slot) (o : Outcome) (s : State) :
    s.Spares (ks.foldl (fun s k => s.endUnstarted k o) s) := by
  induction ks generalizing s with
  | nil => exact .refl s
  | cons k ks ih => exact (endOpportunity_spares s k o s.clock.cycle none 0 false).trans (ih _)

/-! ### One bank cut (R134) -/

theorem firing_of_runs {s : State} (hs : s.timelineSound) {b : Bank} {p : RunningPulse} (hp : s.runningPulse b = some p) :
    ∃ r f actual, s.pool.find p.slot = some r ∧ r.phase = .firing f actual ∧ s.bankOf r.cylinder = b := by
  have hagrees := ((timelineSound_iff s).mp hs).2
  obtain ⟨c, hc, hbank⟩ := (hagrees.runs b p.slot).mp (runsOn_eq_some.mpr ⟨p, hp, rfl⟩)
  obtain ⟨r, hr, hfiring, rfl⟩ := Pool.firingAt_eq_some.mp hc
  cases hphase : r.phase with
  | firing f actual => exact ⟨r, f, actual, hr, hphase, hbank⟩
  | _ => simp [Record.isFiring, hphase] at hfiring

theorem state_of_runningPulse {s : State} {b : Bank} {p : RunningPulse} (h : s.runningPulse b = some p) :
    (s.drivers.get b).state = .firing p := by
  unfold runningPulse at h
  split at h
  · next q hq => rw [hq, Option.some.inj h]
  · cases h

theorem setCylinder_spares (s : State) (c : Cylinder) (e : CylinderStatus) (hcarry : e.carry = (s.table.get c).carry)
    (hreleased : e.released = (s.table.get c).released) (hbank : e.bank = (s.table.get c).bank) : s.Spares (s.setCylinder c e) where
  steady := ⟨rfl, rfl, rfl, rfl, rfl⟩
  marks := rfl
  limits := rfl
  faults := rfl
  table d := by
    rw [setCylinder, setTable_table, Eight.get_set]
    split
    · next h => subst h; exact ⟨hcarry, hreleased, hbank⟩
    · exact ⟨rfl, rfl, rfl⟩

theorem setDrivers_spares (s : State) (d : Drivers) : s.Spares (s.setDrivers d) :=
  ⟨⟨rfl, rfl, rfl, rfl, rfl⟩, rfl, rfl, rfl, fun _ => ⟨rfl, rfl, rfl⟩⟩

theorem endPulse_cut {s : State} {b : Bank} {p : RunningPulse} {r : Record} {f : FiringFields} {actual : Time}
    (hp : s.runningPulse b = some p) (hr : s.pool.find p.slot = some r) (hphase : r.phase = .firing f actual) :
    s.Spares (s.endPulse b .cut) ∧ Pool.Ended [p.slot] s.pool (s.endPulse b .cut).pool := by
  have hclose := closePulse_kept (s := s) (p := p) (r := r) (driven := (s.timeBase - actual).toNat) (why := .cut) (by rintro ⟨h, _⟩; cases h)
  rw [endPulse_of_find .cut hp hr hphase]
  constructor
  · refine State.Spares.trans ?_ (endOpportunity_spares _ _ _ _ _ _ _)
    refine ((setDrivers_spares s _).trans (setDrivers_spares _ _)).trans (setCylinder_spares _ _ _ ?_ ?_ ?_)
    all_goals
      rw [hclose]
      rfl
  · refine endOpportunity_ended (r := r) (s := ((s.setBankState b _).negateFire r.cylinder).setCylinder r.cylinder _) ?_ _ _ _ _ _
    exact hr

/-- The pulse and the waiting records that a bank's visit ends, of the cylinders that `named` holds. -/
structure State.Cuts (named : Cylinder → Bool) (b : Bank) (s u : State) (fired waited : List Slot) : Prop where
  ended : Pool.Ended (fired ++ waited) s.pool u.pool
  spares : s.Spares u
  sound : u.timelineSound
  fired_nodup : fired.Nodup
  mem_fired : ∀ k, k ∈ fired ↔ ∃ c, s.pool.firingAt k = some c ∧ s.bankOf c = b ∧ named c = true
  waited_nodup : waited.Nodup
  mem_waited : ∀ k, k ∈ waited ↔ ∃ c, s.pool.releasedAt k = some c ∧ s.bankOf c = b ∧ named c = true

theorem cutPulse_cuts {s : State} (hs : s.timelineSound) (mask : Byte) (b : Bank) : ∃ fired,
    (s.cutPulse mask b).2 = fired.length ∧ Pool.Ended fired s.pool (s.cutPulse mask b).1.pool ∧ s.Spares (s.cutPulse mask b).1
      ∧ fired.Nodup ∧ ∀ k, k ∈ fired ↔ ∃ c, s.pool.firingAt k = some c ∧ s.bankOf c = b ∧ inMask mask c = true := by
  have hagrees := ((timelineSound_iff s).mp hs).2
  have hstay (h : ∀ k c, s.pool.firingAt k = some c → s.bankOf c = b → inMask mask c = false) (hcut : s.cutPulse mask b = (s, 0)) :
      ∃ fired, (s.cutPulse mask b).2 = fired.length ∧ Pool.Ended fired s.pool (s.cutPulse mask b).1.pool
        ∧ s.Spares (s.cutPulse mask b).1
        ∧ fired.Nodup ∧ ∀ k, k ∈ fired ↔ ∃ c, s.pool.firingAt k = some c ∧ s.bankOf c = b ∧ inMask mask c = true := by
    rw [hcut]
    refine ⟨[], rfl, .nil _, .refl s, List.nodup_nil, fun k => ⟨fun hk => absurd hk List.not_mem_nil, ?_⟩⟩
    rintro ⟨c, hc, hbank, hnamed⟩
    exact absurd hnamed (by simp [h k c hc hbank])
  cases hp : s.runningPulse b with
  | none =>
    refine hstay (fun k c hc hbank => ?_) (by rw [cutPulse, firingCylinder, hp]; rfl)
    obtain ⟨p, hp', -⟩ := runsOn_eq_some.mp ((hagrees.runs b k).mpr ⟨c, hc, hbank⟩)
    cases hp.symm.trans hp'
  | some p =>
    obtain ⟨r, f, actual, hr, hphase, hbank⟩ := firing_of_runs hs hp
    have hcylinder : s.firingCylinder b = some r.cylinder := by rw [firingCylinder, hp]; simp [hr]
    have hat : s.pool.firingAt p.slot = some r.cylinder :=
      Pool.firingAt_eq_some.mpr ⟨r, hr, by simp [Record.isFiring, hphase], rfl⟩
    have honly {k : Slot} {c : Cylinder} (hc : s.pool.firingAt k = some c) (hb : s.bankOf c = b) : k = p.slot := by
      obtain ⟨q, hq, rfl⟩ := runsOn_eq_some.mp ((hagrees.runs b k).mpr ⟨c, hc, hb⟩)
      rw [Option.some.inj (hq.symm.trans hp)]
    cases hnamed : inMask mask r.cylinder with
    | false =>
      refine hstay (fun k c hc hb => ?_) (by rw [cutPulse, hcylinder]; simp [hnamed])
      rw [honly hc hb, hat] at hc
      exact Option.some.inj hc ▸ hnamed
    | true =>
      have hcut : s.cutPulse mask b = (s.endPulse b .cut, 1) := by rw [cutPulse, hcylinder]; simp [hnamed]
      obtain ⟨hspares, hended⟩ := endPulse_cut hp hr hphase
      rw [hcut]
      refine ⟨[p.slot], rfl, hended, hspares, List.nodup_singleton _, fun k => List.mem_singleton.trans ⟨?_, ?_⟩⟩
      · rintro rfl
        exact ⟨r.cylinder, hat, hbank, hnamed⟩
      · rintro ⟨c, hc, hb, -⟩
        exact honly hc hb

theorem mem_cutSlots {s : State} (hs : s.timelineSound) (mask : Byte) (b : Bank) (k : Slot) :
    k ∈ s.cutSlots mask b ↔ ∃ c, s.pool.releasedAt k = some c ∧ s.bankOf c = b ∧ inMask mask c = true := by
  have hagrees := ((timelineSound_iff s).mp hs).2
  rw [cutSlots, List.mem_filter, show k ∈ (s.drivers.get b).waiting.map (fun e => e.slot) ↔ _ from hagrees.waits b k]
  constructor
  · rintro ⟨⟨c, hc, hbank⟩, hnamed⟩
    obtain ⟨r, hr, -, rfl⟩ := Pool.releasedAt_eq_some.mp hc
    rw [hr] at hnamed
    exact ⟨r.cylinder, hc, hbank, hnamed⟩
  · rintro ⟨c, hc, hbank, hnamed⟩
    obtain ⟨r, hr, -, rfl⟩ := Pool.releasedAt_eq_some.mp hc
    rw [hr]
    exact ⟨⟨r.cylinder, hc, hbank⟩, hnamed⟩

theorem cutSlots_nodup {s : State} (hs : s.timelineSound) (mask : Byte) (b : Bank) : (s.cutSlots mask b).Nodup :=
  (((timelineSound_iff s).mp hs).2.nodup b).filter _

/-- The records that the visit of a bank suppresses, one after another (R134). -/
theorem foldl_cutSlots {s : State} (hs : s.timelineSound) (mask : Byte) (b : Bank) :
    (s.cutSlots mask b).foldl (fun s k => s.suppressReleased k .cut) s
      = (s.cutSlots mask b).foldl (fun s k => s.endUnstarted k (.suppressed .cut)) s :=
  foldl_suppressReleased .cut (cutSlots_nodup hs mask b) fun _ hk => released_of_waits hs (List.mem_filter.mp hk).1

theorem cutBank_cuts {s : State} (hs : s.timelineSound) (mask : Byte) (b : Bank) : ∃ fired waited,
    (s.cutBank mask b).2 = (fired.length, waited.length) ∧ s.Cuts (inMask mask) b (s.cutBank mask b).1 fired waited := by
  obtain ⟨fired, hlength, hended, hspares, hnodup, hmem⟩ := cutPulse_cuts hs mask b
  let x := (s.cutPulse mask b).1
  have hx : x.timelineSound := (cutPulse_path false s mask b).timelineSound hs
  have hcut : s.cutBank mask b = ((x.cutSlots mask b).foldl (fun s k => s.endUnstarted k (.suppressed .cut)) x,
      (s.cutPulse mask b).2, (x.cutSlots mask b).length) := by
    rw [← foldl_cutSlots hx]
    rfl
  have hsuppressed := foldl_endUnstarted_ended (.suppressed .cut) (cutSlots_nodup hx mask b) fun k hk =>
    let ⟨r, hr, _⟩ := released_of_waits hx (List.mem_filter.mp hk).1
    ⟨r, hr⟩
  refine ⟨fired, x.cutSlots mask b, by rw [hcut, hlength], ?_, ?_, (cutBank_path false s mask b).timelineSound hs, hnodup, hmem,
    cutSlots_nodup hx mask b, fun k => ?_⟩
  · rw [hcut]
    exact hended.append hsuppressed
  · rw [hcut]
    exact hspares.trans (foldl_endUnstarted_spares _ _ _)
  · rw [mem_cutSlots hx, hspares.bankOf, hended.releasedAt]
    split
    · next hk =>
      obtain ⟨c, hc, -⟩ := (hmem k).mp hk
      obtain ⟨r, hr, hfiring, -⟩ := Pool.firingAt_eq_some.mp hc
      have hnot : s.pool.releasedAt k = none := Pool.releasedAt_eq_none fun r' hr' => by
        rw [Option.some.inj (hr'.symm.trans hr)]
        cases hrel : r.isReleased with
        | false => rfl
        | true => rw [not_isFiring_of_isReleased hrel] at hfiring; cases hfiring
      rw [hnot]
    · rfl

/-! ### Both banks cut -/

theorem length_eq_countP {p : Pool} (hp : p.slots.Nodup) {ks : List Slot} (hks : ks.Nodup) {q : Record → Bool}
    (h : ∀ k, k ∈ ks ↔ ∃ r, p.find k = some r ∧ q r = true) : ks.length = p.records.countP q := by
  have hsub : ((p.records.filter q).map fun r => r.slot).Nodup := hp.sublist (List.filter_sublist.map _)
  have hperm : ks.Perm ((p.records.filter q).map fun r => r.slot) := by
    refine (List.perm_ext_iff_of_nodup hks hsub).mpr fun k => (h k).trans ?_
    simp only [List.mem_map, List.mem_filter]
    constructor
    · rintro ⟨r, hr, hq⟩
      obtain ⟨hmem, hslot⟩ := Pool.find_some hr
      exact ⟨r, ⟨hmem, hq⟩, hslot⟩
    · rintro ⟨r, ⟨hmem, hq⟩, rfl⟩
      exact ⟨r, Pool.find_of_mem hp hmem, hq⟩
  rw [hperm.length_eq, List.length_map, List.countP_eq_length_filter]

theorem State.Cuts.bank {named : Cylinder → Bool} {b : Bank} {s u : State} {fired waited : List Slot} (h : s.Cuts named b u fired waited)
    {k : Slot} (hk : k ∈ fired ++ waited) {r : Record} (hr : s.pool.find k = some r) : s.bankOf r.cylinder = b := by
  rcases List.mem_append.mp hk with hk | hk
  · obtain ⟨c, hc, hbank, -⟩ := (h.mem_fired k).mp hk
    obtain ⟨r', hr', -, rfl⟩ := Pool.firingAt_eq_some.mp hc
    exact Option.some.inj (hr'.symm.trans hr) ▸ hbank
  · obtain ⟨c, hc, hbank, -⟩ := (h.mem_waited k).mp hk
    obtain ⟨r', hr', -, rfl⟩ := Pool.releasedAt_eq_some.mp hc
    exact Option.some.inj (hr'.symm.trans hr) ▸ hbank

theorem bankA_or_bankB (b : Bank) : b = .bankA ∨ b = .bankB := by cases b <;> simp

/-- What the visits of both banks end: every FIRING and every RELEASED record of a named cylinder, and no other. -/
theorem cut_both {named : Cylinder → Bool} {s u v : State} {fired waited fired' waited' : List Slot}
    (hA : s.Cuts named .bankA u fired waited) (hB : u.Cuts named .bankB v fired' waited') :
    (fired ++ fired').Nodup ∧ (∀ k, k ∈ fired ++ fired' ↔ ∃ c, s.pool.firingAt k = some c ∧ named c = true)
      ∧ (waited ++ waited').Nodup ∧ ∀ k, k ∈ waited ++ waited' ↔ ∃ c, s.pool.releasedAt k = some c ∧ named c = true := by
  have hkept {k : Slot} {r : Record} (hr : s.pool.find k = some r) (hbank : s.bankOf r.cylinder = .bankB) :
      k ∉ fired ++ waited := fun hk => by cases (hA.bank hk hr).symm.trans hbank
  have hfired' (k : Slot) : k ∈ fired' ↔ ∃ c, s.pool.firingAt k = some c ∧ s.bankOf c = .bankB ∧ named c = true := by
    rw [hB.mem_fired, hA.spares.bankOf, hA.ended.firingAt]
    refine ⟨fun ⟨c, hc, h⟩ => ⟨c, ?_, h⟩, fun ⟨c, hc, hbank, h⟩ => ⟨c, ?_, hbank, h⟩⟩
    · exact (ite_eq_iff.mp hc).elim (fun h => by cases h.2) (·.2)
    · obtain ⟨r, hr, -, rfl⟩ := Pool.firingAt_eq_some.mp hc
      rw [if_neg (hkept hr hbank), hc]
  have hwaited' (k : Slot) : k ∈ waited' ↔ ∃ c, s.pool.releasedAt k = some c ∧ s.bankOf c = .bankB ∧ named c = true := by
    rw [hB.mem_waited, hA.spares.bankOf, hA.ended.releasedAt]
    refine ⟨fun ⟨c, hc, h⟩ => ⟨c, ?_, h⟩, fun ⟨c, hc, hbank, h⟩ => ⟨c, ?_, hbank, h⟩⟩
    · exact (ite_eq_iff.mp hc).elim (fun h => by cases h.2) (·.2)
    · obtain ⟨r, hr, -, rfl⟩ := Pool.releasedAt_eq_some.mp hc
      rw [if_neg (hkept hr hbank), hc]
  refine ⟨List.nodup_append.mpr ⟨hA.fired_nodup, hB.fired_nodup, fun k hk j hj hkj => ?_⟩, fun k => ?_,
    List.nodup_append.mpr ⟨hA.waited_nodup, hB.waited_nodup, fun k hk j hj hkj => ?_⟩, fun k => ?_⟩
  · obtain ⟨c, hc, hbank, -⟩ := (hfired' k).mp (hkj ▸ hj)
    obtain ⟨r, hr, -, rfl⟩ := Pool.firingAt_eq_some.mp hc
    exact hkept hr hbank (List.mem_append_left _ hk)
  · rw [List.mem_append, hA.mem_fired, hfired']
    exact ⟨fun h => h.elim (fun ⟨c, hc, _, hn⟩ => ⟨c, hc, hn⟩) fun ⟨c, hc, _, hn⟩ => ⟨c, hc, hn⟩, fun ⟨c, hc, hn⟩ =>
      (bankA_or_bankB (s.bankOf c)).imp (fun hb => ⟨c, hc, hb, hn⟩) fun hb => ⟨c, hc, hb, hn⟩⟩
  · obtain ⟨c, hc, hbank, -⟩ := (hwaited' k).mp (hkj ▸ hj)
    obtain ⟨r, hr, -, rfl⟩ := Pool.releasedAt_eq_some.mp hc
    exact hkept hr hbank (List.mem_append_right _ hk)
  · rw [List.mem_append, hA.mem_waited, hwaited']
    exact ⟨fun h => h.elim (fun ⟨c, hc, _, hn⟩ => ⟨c, hc, hn⟩) fun ⟨c, hc, _, hn⟩ => ⟨c, hc, hn⟩, fun ⟨c, hc, hn⟩ =>
      (bankA_or_bankB (s.bankOf c)).imp (fun hb => ⟨c, hc, hb, hn⟩) fun hb => ⟨c, hc, hb, hn⟩⟩

/-- What the visits of both banks leave (R134). -/
structure State.CutFrom (named : Cylinder → Bool) (s v : State) : Prop where
  spares : s.Spares v
  named_pending : ∀ r ∈ v.pool.records, named r.cylinder = true → r.phase = .pending
  fire : ∀ c, v.fireLine c = (s.fireLine c && !named c)
  kept : ∀ r ∈ s.pool.records, r.phase = .pending ∨ named r.cylinder = false → r ∈ v.pool.records
  unnamed : ∀ r ∈ v.pool.records, named r.cylinder = false → r ∈ s.pool.records

theorem cut_leaves {named : Cylinder → Bool} {s u v : State} {fired waited fired' waited' : List Slot} (hs : s.timelineSound)
    (hA : s.Cuts named .bankA u fired waited) (hB : u.Cuts named .bankB v fired' waited') : s.CutFrom named v := by
  obtain ⟨-, hfired, -, hwaited⟩ := cut_both hA hB
  have hended := hA.ended.append hB.ended
  have hin (k : Slot) : k ∈ (fired ++ waited) ++ (fired' ++ waited') ↔ k ∈ fired ++ fired' ∨ k ∈ waited ++ waited' := by
    simp only [List.mem_append]
    tauto
  have hcut {k : Slot} {r : Record} (hr : s.pool.find k = some r) (hk : k ∈ (fired ++ waited) ++ (fired' ++ waited')) :
      named r.cylinder = true ∧ r.phase ≠ .pending := by
    rcases (hin k).mp hk with hk | hk
    · obtain ⟨c, hc, hn⟩ := (hfired k).mp hk
      obtain ⟨r', hr', hfiring, rfl⟩ := Pool.firingAt_eq_some.mp hc
      obtain rfl := Option.some.inj (hr'.symm.trans hr)
      exact ⟨hn, fun hp => by simp [Record.isFiring, hp] at hfiring⟩
    · obtain ⟨c, hc, hn⟩ := (hwaited k).mp hk
      obtain ⟨r', hr', hrel, rfl⟩ := Pool.releasedAt_eq_some.mp hc
      obtain rfl := Option.some.inj (hr'.symm.trans hr)
      exact ⟨hn, fun hp => by simp [Record.isReleased, hp] at hrel⟩
  have hslots := Pool.partitioned_slots_nodup ((timelineSound_iff s).mp hs).1
  have hslots' := Pool.partitioned_slots_nodup ((timelineSound_iff v).mp hB.sound).1
  refine ⟨hA.spares.trans hB.spares, fun r hr hn => ?_, fun c => ?_, fun r hr h => ?_, fun r hr hn => ?_⟩
  · have hfind := Pool.find_of_mem hslots' hr
    by_cases hk : r.slot ∈ (fired ++ waited) ++ (fired' ++ waited')
    · exact (hended.ended _ hk r hfind).1
    · rw [hended.kept _ hk] at hfind
      rw [hin, hfired, hwaited, not_or] at hk
      cases hphase : r.phase with
      | pending => rfl
      | released f t =>
        exact absurd ⟨r.cylinder, Pool.releasedAt_eq_some.mpr ⟨r, hfind, by simp [Record.isReleased, hphase], rfl⟩, hn⟩ hk.2
      | firing f t =>
        exact absurd ⟨r.cylinder, Pool.firingAt_eq_some.mpr ⟨r, hfind, by simp [Record.isFiring, hphase], rfl⟩, hn⟩ hk.1
  · have hlines := ((timelineSound_iff s).mp hs).2.lines c
    have hlines' := ((timelineSound_iff v).mp hB.sound).2.lines c
    rw [Bool.eq_iff_iff, hlines', Bool.and_eq_true, hlines]
    constructor
    · rintro ⟨k, hk⟩
      rw [hended.firingAt] at hk
      split at hk
      · cases hk
      · next hnot =>
        rw [hin, hfired, not_or] at hnot
        refine ⟨⟨k, hk⟩, ?_⟩
        cases hn : named c with
        | false => rfl
        | true => exact absurd ⟨c, hk, hn⟩ hnot.1
    · rintro ⟨⟨k, hk⟩, hn⟩
      refine ⟨k, ?_⟩
      rw [hended.firingAt, if_neg fun hin' => ?_, hk]
      obtain ⟨r, hr, -, rfl⟩ := Pool.firingAt_eq_some.mp hk
      simp [(hcut hr hin').1] at hn
  · have hfind := Pool.find_of_mem hslots hr
    have hk : r.slot ∉ (fired ++ waited) ++ (fired' ++ waited') := fun hk => by
      obtain ⟨hn, hp⟩ := hcut hfind hk
      exact h.elim hp fun hn' => by simp [hn] at hn'
    rw [← hended.kept _ hk] at hfind
    exact (Pool.find_some hfind).1
  · have hfind := Pool.find_of_mem hslots' hr
    have hk : r.slot ∉ (fired ++ waited) ++ (fired' ++ waited') := fun hk => by
      obtain ⟨-, r', hr', hc⟩ := hended.ended _ hk r hfind
      obtain ⟨hn', -⟩ := hcut hr' hk
      simp [← hc, hn'] at hn
    rw [hended.kept _ hk] at hfind
    exact (Pool.find_some hfind).1

/-- Settles O37. -/
theorem cutNow : Obligations.CutNow := by
  unfold Obligations.CutNow
  intro t mask s a named truncated suppressed hl hs
  let x := a.setLimits { a.limits with enables := a.limits.enables &&& ~~~mask }
  have hx : x.timelineSound := hs
  have hxt : x.timeBase = t := arrive_timeBase s t
  have htruncated {y : State} (hy : y.timelineSound) (hyt : y.timeBase = t) (b : Bank) : (y.cutPulse mask b).1 = truncated y b := by
    unfold truncated
    cases hp : y.runningPulse b with
    | none =>
      rw [cutPulse, firingCylinder, hp]
      dsimp only [Option.bind_none]
      split
      · next p hp' => cases (runningPulse_of_firing hp').symm.trans hp
      · rfl
    | some p =>
      obtain ⟨r, f, actual, hr, hphase, -⟩ := firing_of_runs hy hp
      have hcylinder : y.firingCylinder b = some r.cylinder := by rw [firingCylinder, hp]; simp [hr]
      have hstate : (y.drivers.get b).state = .firing p := state_of_runningPulse hp
      rw [hstate, cutPulse, hcylinder]
      dsimp only
      rw [hr]
      dsimp only
      rw [hphase]
      dsimp only
      split
      · next hn =>
        have hend := endPulse_of_find .cut hp hr hphase
        dsimp only at hend
        rw [closePulse_kept (by rintro ⟨h, _⟩; cases h), hyt] at hend
        exact hend.trans (if_pos hn).symm
      · next hn => exact (if_neg hn).symm
  have hbank {y : State} (hy : y.timelineSound) (hyt : y.timeBase = t) (b : Bank) :
      (y.cutBank mask b).1 = suppressed (truncated y b) b := by
    rw [← htruncated hy hyt b]
    exact foldl_cutSlots ((cutPulse_path false y mask b).timelineSound hy) mask b
  obtain ⟨fired, waited, hcountA, hA⟩ := cutBank_cuts hx mask .bankA
  obtain ⟨fired', waited', hcountB, hB⟩ := cutBank_cuts hA.sound mask .bankB
  obtain ⟨hnodup, hfired, hnodup', hwaited⟩ := cut_both hA hB
  have hleaves := cut_leaves hx hA hB
  have hslots := Pool.partitioned_slots_nodup ((timelineSound_iff a).mp hs).1
  have hfires : (fired ++ fired').length = a.pool.records.countP fun r => named r && r.isFiring := by
    refine length_eq_countP hslots hnodup fun k => (hfired k).trans ?_
    simp only [Pool.firingAt_eq_some, Bool.and_eq_true]
    exact ⟨fun ⟨_, ⟨r, hr, hf, hc⟩, hn⟩ => ⟨r, hr, (congrArg (inMask mask) hc).trans hn, hf⟩, fun ⟨r, hr, hn, hf⟩ => ⟨_, ⟨r, hr, hf, rfl⟩, hn⟩⟩
  have hwaits : (waited ++ waited').length = a.pool.records.countP fun r => named r && r.isReleased := by
    refine length_eq_countP hslots hnodup' fun k => (hwaited k).trans ?_
    simp only [Pool.releasedAt_eq_some, Bool.and_eq_true]
    exact ⟨fun ⟨_, ⟨r, hr, hf, hc⟩, hn⟩ => ⟨r, hr, (congrArg (inMask mask) hc).trans hn, hf⟩, fun ⟨r, hr, hn, hf⟩ => ⟨_, ⟨r, hr, hf, rfl⟩, hn⟩⟩
  refine ⟨((x.cutBank mask .bankA).1.cutBank mask .bankB).1, ?_, ?_, hleaves.spares.limits, hleaves.named_pending, hleaves.fire,
    hleaves.kept, hleaves.unnamed, fun c => ⟨(hleaves.spares.table c).1, (hleaves.spares.table c).2.1⟩, hleaves.spares.faults,
    hleaves.spares.steady.clock, hleaves.spares.marks, hleaves.spares.steady.staging, hleaves.spares.steady.engine,
    hleaves.spares.steady.timeBase, hleaves.spares.steady.pending⟩
  · rw [hbank hA.sound (hA.spares.steady.timeBase.trans hxt), hbank hx hxt]
  · refine next_onFrame (n := .cutNow) (act := fun s => s.cutNow mask) hl rfl ?_
    have hcut : a.cutNow mask = (((x.cutBank mask .bankA).1.cutBank mask .bankB).1, .ok,
        dataOf [byte ((x.cutBank mask .bankA).2.1 + ((x.cutBank mask .bankA).1.cutBank mask .bankB).2.1),
          byte ((x.cutBank mask .bankA).2.2 + ((x.cutBank mask .bankA).1.cutBank mask .bankB).2.2)]) := rfl
    rw [hcut, hcountA, hcountB, data_two_bytes, ← hfires, ← hwaits, List.length_append, List.length_append]
    rfl

end Sys2Proof.Machine
end

section
/-! PROOF. The placement plan: what an accepted plan marks and leaves (O34), and why a plan refuses (O35). -/

namespace Sys2Proof.Machine
open State

/-! ### The record that yields first (R89, R90) -/

/-- A record yields at least as early as another: at a lower priority, or at the same with no smaller offset. -/
def Record.Precedes (v x : Record) : Prop := v.priority < x.priority ∨ (v.priority = x.priority ∧ x.offset ≤ v.offset)

theorem Record.precedes_self (x : Record) : x.Precedes x := .inr ⟨rfl, le_refl _⟩

theorem Record.Precedes.trans {x y z : Record} (h : x.Precedes y) (h' : y.Precedes z) : x.Precedes z := by
  unfold Record.Precedes at *
  omega

theorem precedes_of_displacedBefore {x y : Record} (h : displacedBefore x y = true) : x.Precedes y := by
  simp only [displacedBefore, Bool.or_eq_true, Bool.and_eq_true, decide_eq_true_eq, beq_iff_eq] at h
  unfold Record.Precedes
  omega

theorem precedes_of_not_displacedBefore {x y : Record} (h : ¬ displacedBefore x y = true) : y.Precedes x := by
  simp only [displacedBefore, Bool.or_eq_true, Bool.and_eq_true, decide_eq_true_eq, beq_iff_eq, not_or, not_and] at h
  unfold Record.Precedes
  omega

theorem displaceable_iff {priority : Nat} {r : Record} :
    displaceable priority r = true ↔ r.phase = .pending ∧ r.priority < priority := by
  unfold displaceable Record.isPending
  cases r.phase <;> simp

theorem betterVictim_best {priority : Nat} {x : Record} (r : Record) :
    ∃ y, betterVictim priority (some x) r = some y ∧ y.Precedes x ∧ (displaceable priority r = true → y.Precedes r) := by
  unfold betterVictim
  split
  · dsimp only
    split
    · next h => exact ⟨r, rfl, precedes_of_displacedBefore h, fun _ => r.precedes_self⟩
    · next h => exact ⟨x, rfl, x.precedes_self, fun _ => precedes_of_not_displacedBefore h⟩
  · next h => exact ⟨x, rfl, x.precedes_self, fun h' => absurd h' h⟩

theorem betterVictim_fold_best {priority : Nat} (rs : List Record) (x : Record) :
    ∃ y, rs.foldl (betterVictim priority) (some x) = some y ∧ y.Precedes x
      ∧ ∀ r ∈ rs, displaceable priority r = true → y.Precedes r := by
  induction rs generalizing x with
  | nil => exact ⟨x, rfl, x.precedes_self, fun _ h => absurd h List.not_mem_nil⟩
  | cons r rs ih =>
    obtain ⟨z, hz, hzx, hzr⟩ := betterVictim_best (priority := priority) (x := x) r
    obtain ⟨y, hy, hyz, hyrs⟩ := ih z
    refine ⟨y, by rw [List.foldl_cons, hz, hy], hyz.trans hzx, fun r' hr' hd => ?_⟩
    obtain rfl | hr' := List.mem_cons.mp hr'
    · exact hyz.trans (hzr hd)
    · exact hyrs r' hr' hd

/-- The record that yields next yields before every other that may be displaced. -/
theorem nextVictim_precedes {priority : Nat} {rs : List Record} {v : Record} (h : nextVictim priority rs = some v) :
    ∀ r ∈ rs, displaceable priority r = true → v.Precedes r := by
  rw [nextVictim_eq] at h
  induction rs with
  | nil => exact fun _ h => absurd h List.not_mem_nil
  | cons r rs ih =>
    intro x hx hd
    rw [List.foldl_cons] at h
    by_cases hr : displaceable priority r = true
    · have hfirst : betterVictim priority none r = some r := if_pos hr
      obtain ⟨y, hy, hyr, hyrs⟩ := betterVictim_fold_best (priority := priority) rs r
      rw [hfirst, hy] at h
      obtain rfl := Option.some.inj h
      obtain rfl | hx := List.mem_cons.mp hx
      · exact hyr
      · exact hyrs x hx hd
    · have hnone : betterVictim priority none r = none := if_neg hr
      rw [hnone] at h
      obtain rfl | hx := List.mem_cons.mp hx
      · exact absurd hd hr
      · exact ih h x hx hd

theorem nextVictim_none {priority : Nat} {rs : List Record} (h : nextVictim priority rs = none) :
    ∀ r ∈ rs, displaceable priority r = false := by
  rw [nextVictim_eq] at h
  induction rs with
  | nil => exact fun _ h => absurd h List.not_mem_nil
  | cons r rs ih =>
    rw [List.foldl_cons] at h
    by_cases hr : displaceable priority r = true
    · have hfirst : betterVictim priority none r = some r := if_pos hr
      obtain ⟨y, hy, -⟩ := betterVictim_fold_best (priority := priority) rs r
      rw [hfirst, hy] at h
      cases h
    · have hnone : betterVictim priority none r = none := if_neg hr
      rw [hnone] at h
      exact List.forall_mem_cons.mpr ⟨Bool.eq_false_of_not_eq_true hr, ih h⟩

/-! ### Records left out by slot -/

/-- The records whose slots are not among those of others. -/
def leftOf (rs out : List Record) : List Record := rs.filter fun r => !(out.any fun x => x.slot == r.slot)

theorem mem_leftOf {rs out : List Record} {r : Record} : r ∈ leftOf rs out ↔ r ∈ rs ∧ ∀ x ∈ out, x.slot ≠ r.slot := by
  simp [leftOf]

theorem leftOf_append (rs out more : List Record) : leftOf rs (out ++ more) = leftOf (leftOf rs out) more := by
  unfold leftOf
  rw [List.filter_filter]
  refine List.filter_congr fun r _ => ?_
  rw [List.any_append, Bool.not_or, Bool.and_comm]

theorem leftOf_nil (rs : List Record) : leftOf rs [] = rs := List.filter_eq_self.mpr fun _ _ => rfl

theorem leftOf_single (rs : List Record) (v : Record) : leftOf rs [v] = rs.filter fun r => r.slot != v.slot := by
  refine List.filter_congr fun r _ => ?_
  rw [List.any_cons, List.any_nil, Bool.or_false, bne, BEq.comm]

theorem leftOf_length_lt {rs : List Record} {v : Record} (h : v ∈ rs) : (leftOf rs [v]).length < rs.length := by
  refine List.length_filter_lt_length_iff_exists.mpr ⟨v, h, ?_⟩
  simp

/-! ### The budget marks (R90) -/

/-- The budget marks are made one at a time while the durations do not fit, each of the record that yields first among those left. -/
theorem budgetMarks_spec {budget d priority : Nat} (n : Nat) {rs marks left : List Record}
    (h : budgetMarks n budget d priority rs = (marks, left)) (hn : rs.length ≤ n) :
    left = leftOf rs marks ∧ (marks.map fun r => r.slot).Nodup
      ∧ (∀ before v after, marks = before ++ v :: after →
        budget < sumDurations (leftOf rs before) + d ∧ nextVictim priority (leftOf rs before) = some v)
      ∧ (sumDurations left + d ≤ budget ∨ ∀ r ∈ left, displaceable priority r = false) := by
  induction n generalizing rs marks left with
  | zero =>
    cases h
    refine ⟨(leftOf_nil _).symm, List.nodup_nil, fun before v after h => ?_, .inr fun r hr => ?_⟩
    · simp at h
    · rw [List.length_eq_zero_iff.mp (Nat.le_zero.mp hn)] at hr
      cases hr
  | succ n ih =>
    unfold budgetMarks at h
    split at h
    · next hfits =>
      cases h
      exact ⟨(leftOf_nil _).symm, List.nodup_nil, fun before v after h => by simp at h, .inl hfits⟩
    · next hover =>
      split at h
      · next hnone =>
        cases h
        exact ⟨(leftOf_nil _).symm, List.nodup_nil, fun before v after h => by simp at h, .inr (nextVictim_none hnone)⟩
      · next v hv =>
        generalize hrest : budgetMarks n budget d priority (rs.filter fun r => r.slot != v.slot) = rest at h
        obtain ⟨more, left'⟩ := rest
        cases h
        rw [← leftOf_single] at hrest
        have hlt := leftOf_length_lt (nextVictim_mem hv).1
        obtain ⟨hleft, hnodup, hmarks, hend⟩ := ih hrest (by omega)
        have happend (before : List Record) : leftOf rs (v :: before) = leftOf (leftOf rs [v]) before := leftOf_append rs [v] before
        refine ⟨by rw [happend, hleft], List.nodup_cons.mpr ⟨fun hmem => ?_, hnodup⟩, fun before x after h => ?_, hend⟩
        · obtain ⟨r, hr, hslot⟩ := List.mem_map.mp hmem
          have hr' := (budgetMarks_mem n budget d priority (leftOf rs [v]) r (by rw [hrest]; exact hr)).1
          exact (mem_leftOf.mp hr').2 v List.mem_cons_self hslot.symm
        · cases before with
          | nil =>
            obtain ⟨rfl, -⟩ := List.cons_eq_cons.mp h
            rw [leftOf_nil]
            exact ⟨Nat.not_le.mp hover, hv⟩
          | cons y before =>
            obtain ⟨rfl, htail⟩ := List.cons_eq_cons.mp h
            rw [happend]
            exact hmarks before x after htail

/-! ### The records in conflict (R87) -/

theorem toList_eq_map {α : Type} (v : Eight α) : v.toList = allCylinders.map v.get := rfl

theorem slots_eq_flatMap (p : Pool) : p.slots = allCylinders.flatMap fun c => (p.lists.get c).map fun r => r.slot := by
  rw [Pool.slots_eq_flatten, toList_eq_map, List.map_map, List.flatMap]
  rfl

theorem mem_allCylinders (c : Cylinder) : c ∈ allCylinders := by fin_cases c <;> decide

/-- A slot stands in one cylinder list. -/
theorem cylinder_of_slot {p : Pool} (h : p.slots.Nodup) {c d : Cylinder} {x y : Record} (hx : x ∈ p.lists.get c)
    (hy : y ∈ p.lists.get d) (hslot : x.slot = y.slot) : c = d := by
  rw [slots_eq_flatMap, List.nodup_flatMap] at h
  by_contra hne
  have hsymm : Std.Symm (Function.onFun List.Disjoint fun c : Cylinder => (p.lists.get c).map fun r => r.slot) := ⟨fun _ _ h => h.symm⟩
  exact h.2.forall (mem_allCylinders c) (mem_allCylinders d) hne (List.mem_map_of_mem hx) (hslot ▸ List.mem_map_of_mem hy)

theorem mem_bankMates {s : State} {c d : Cylinder} :
    d ∈ s.bankMates c ↔ d ∈ s.configured ∧ d ≠ c ∧ s.bankOf d = s.bankOf c := by
  simp only [bankMates, List.mem_filter, mem_allCylinders, true_and, Bool.and_eq_true, bne_iff_ne, ne_eq, List.contains_eq_mem,
    decide_eq_true_eq, beq_iff_eq]
  tauto

theorem mem_conflictSet_iff {s : State} {q : PlanInput} {r : Record} :
    r ∈ s.conflictSet q ↔ (r ∈ s.listWithout q.cylinder q.exclude ∧ s.clashes q s.geometry.dwellSpan r = true)
      ∨ ∃ c ∈ s.bankMates q.cylinder, r ∈ s.listWithout c q.exclude ∧ s.clashes q s.geometry.recoverySpan r = true := by
  simp only [conflictSet, List.mem_append, List.mem_filter, List.mem_flatMap]

theorem conflictSet_nodup {s : State} (h : s.pool.slots.Nodup) (q : PlanInput) : ((s.conflictSet q).map fun r => r.slot).Nodup := by
  have hmates : (q.cylinder :: s.bankMates q.cylinder).Nodup := by
    refine List.nodup_cons.mpr ⟨fun hc => (mem_bankMates.mp hc).2.1 rfl, List.Nodup.filter _ (by decide)⟩
  have hlists : ((q.cylinder :: s.bankMates q.cylinder).flatMap fun c => (s.pool.lists.get c).map fun r => r.slot).Nodup := by
    refine List.nodup_flatMap.mpr ⟨fun c _ => Pool.list_slots_nodup h c, hmates.imp fun {c d} hne k hc hd => ?_⟩
    obtain ⟨x, hx, rfl⟩ := List.mem_map.mp hc
    obtain ⟨y, hy, hslot⟩ := List.mem_map.mp hd
    exact hne (cylinder_of_slot h hx hy hslot.symm)
  have hwithout (c : Cylinder) (f : Record → Bool) :
      (((s.listWithout c q.exclude).filter f).map fun r => r.slot).Sublist ((s.pool.lists.get c).map fun r => r.slot) :=
    (List.filter_sublist.trans List.filter_sublist).map _
  refine hlists.sublist ?_
  rw [conflictSet, List.map_append, List.map_flatMap, List.flatMap_cons]
  exact (hwithout _ _).append (List.Sublist.flatMap_right _ fun c _ => hwithout c _)

/-- In the request's own list the records in conflict are those that the test finds, whatever stands elsewhere. -/
theorem mem_leftOf_conflictSet {s : State} (h : s.pool.slots.Nodup) {q : PlanInput} {r : Record} :
    r ∈ leftOf (s.listWithout q.cylinder q.exclude) (s.conflictSet q) ↔
      r ∈ s.listWithout q.cylinder q.exclude ∧ s.clashes q s.geometry.dwellSpan r = false := by
  rw [mem_leftOf]
  refine and_congr_right fun hr => ⟨fun hout => ?_, fun hclash x hx hslot => ?_⟩
  · cases hc : s.clashes q s.geometry.dwellSpan r with
    | false => rfl
    | true => exact absurd rfl (hout r (mem_conflictSet_iff.mpr (.inl ⟨hr, hc⟩)))
  · rcases mem_conflictSet_iff.mp hx with ⟨hmem, hc⟩ | ⟨c, hc, hmem, -⟩
    · have hsame : x = r := List.inj_on_of_nodup_map (Pool.list_slots_nodup h q.cylinder) (mem_listWithout hmem).1
        (mem_listWithout hr).1 hslot
      rw [hsame, hclash] at hc
      cases hc
    · exact (mem_bankMates.mp hc).2.1 (cylinder_of_slot h (mem_listWithout hmem).1 (mem_listWithout hr).1 hslot)

/-! ### What an accepted plan marks and leaves (R87 to R91) -/

theorem leftOf_listWithout (s : State) (q : PlanInput) (c : Cylinder) (out : List Record) :
    leftOf (s.listWithout c q.exclude) out
      = (s.pool.lists.get c).filter fun r => some r.slot != q.exclude && !(out.any fun x => x.slot == r.slot) := by
  rw [leftOf, listWithout, List.filter_filter]
  exact List.filter_congr fun r _ => Bool.and_comm _ _

/-- The steps of an accepted plan, with the lists left written by what is marked. -/
theorem State.PlanSteps.left_eq {s : State} {q : PlanInput} {marks : List Mark} {d : Nat} {bc : Bool} {own capacity budget left : List Record}
    (h : s.PlanSteps q marks d bc own capacity budget left) :
    own = leftOf (s.listWithout q.cylinder q.exclude) (s.conflictSet q)
      ∧ left = leftOf (leftOf own capacity) budget ∧ (budget.map fun r => r.slot).Nodup
      ∧ (∀ before v after, budget = before ++ v :: after →
        s.limits.budget < sumDurations (leftOf (leftOf own capacity) before) + q.duration
          ∧ nextVictim q.priority (leftOf (leftOf own capacity) before) = some v)
      ∧ (sumDurations left + q.duration ≤ s.limits.budget ∨ ∀ r ∈ left, displaceable q.priority r = false) := by
  exact ⟨h.own_eq, budgetMarks_spec _ h.budget_eq (le_refl _)⟩

/-- The marks of an accepted plan are of different slots. -/
theorem State.PlanSteps.marks_nodup {s : State} {q : PlanInput} {marks : List Mark} {d : Nat} {bc : Bool}
    {own capacity budget left : List Record} (h : s.PlanSteps q marks d bc own capacity budget left) (hp : s.pool.slots.Nodup) :
    (marks.map fun m => m.record.slot).Nodup := by
  obtain ⟨hown, -, hbudget, hmarks, -⟩ := h.left_eq
  have hcapacity : (capacity.map fun r => r.slot).Nodup ∧ ∀ v ∈ capacity, v ∈ own := by
    rcases h.capacity_cases with ⟨-, rfl⟩ | ⟨-, v, hv, rfl⟩
    · exact ⟨List.nodup_nil, fun _ h => absurd h List.not_mem_nil⟩
    · refine ⟨List.nodup_singleton _, fun x hx => ?_⟩
      rw [List.mem_singleton.mp hx]
      exact (nextVictim_mem hv).1
  have hsteps : budgetMarks (leftOf own capacity).length s.limits.budget q.duration q.priority (leftOf own capacity) = (budget, left) :=
    h.budget_eq
  have hleft : ∀ v ∈ budget, v ∈ leftOf own capacity := fun v hv =>
    (budgetMarks_mem _ _ _ _ _ v (by rw [hsteps]; exact hv)).1
  rw [h.marks_eq, List.map_append, List.map_append, List.map_map, List.map_map, List.map_map]
  refine List.nodup_append.mpr ⟨List.nodup_append.mpr ⟨conflictSet_nodup hp q, hcapacity.1, ?_⟩, hbudget, ?_⟩
  · rintro k hk j hj rfl
    obtain ⟨x, hx, rfl⟩ := List.mem_map.mp hk
    obtain ⟨y, hy, hslot⟩ := List.mem_map.mp hj
    exact (mem_leftOf.mp (hown ▸ hcapacity.2 y hy)).2 x hx hslot.symm
  · rintro k hk j hj rfl
    obtain ⟨y, hy, hslot⟩ := List.mem_map.mp hj
    obtain ⟨hmem, hne⟩ := mem_leftOf.mp (hleft y hy)
    rcases List.mem_append.mp hk with hk | hk
    · obtain ⟨x, hx, rfl⟩ := List.mem_map.mp hk
      exact (mem_leftOf.mp (hown ▸ hmem)).2 x hx hslot.symm
    · obtain ⟨x, hx, rfl⟩ := List.mem_map.mp hk
      exact hne x hx hslot.symm

theorem any_marks (marks : List Mark) (k : Slot) :
    (marks.any fun m => m.record.slot == k) = (marks.map fun m => m.record).any fun x => x.slot == k := by
  rw [List.any_map]
  rfl

/-- Settles O34. -/
theorem planAcceptedFits : Obligations.PlanAcceptedFits := by
  unfold Obligations.PlanAcceptedFits
  intro s q marks d bc hp hcap hplan left total own yields first
  have hslots := Pool.partitioned_slots_nodup hp
  obtain ⟨own', capacity, budget, left', hsteps⟩ := planFit_accepted hplan
  obtain ⟨hown', hleft', -, hmarks, hend⟩ := hsteps.left_eq
  have hownOf (out : List Record) : own out = leftOf own' out := by
    rw [hown', ← leftOf_append, leftOf_listWithout]
  have hrecords : marks.map (fun m => m.record) = s.conflictSet q ++ capacity ++ budget := by
    rw [hsteps.marks_eq]
    simp [Function.comp_def]
  have hleftOf (c : Cylinder) : left c = leftOf (s.listWithout c q.exclude) (s.conflictSet q ++ capacity ++ budget) := by
    rw [leftOf_listWithout, ← hrecords]
    refine List.filter_congr fun r _ => ?_
    rw [any_marks]
  have hleftOwn : left q.cylinder = left' := by
    rw [hleftOf, leftOf_append, leftOf_append, ← hown', hleft']
  have hyields {r : Record} : yields r ↔ displaceable q.priority r = true := displaceable_iff.symm
  have hfirst {v : Record} {rs : List Record} (h : nextVictim q.priority rs = some v) : first v rs :=
    ⟨(nextVictim_mem h).1, hyields.mpr (nextVictim_mem h).2, fun x hx hy => nextVictim_precedes h x hx (hyields.mp hy)⟩
  have hnone : own [] = own' := (hownOf []).trans (leftOf_nil own')
  have hmore (before : List Record) : own (capacity ++ before) = leftOf (leftOf own' capacity) before := by
    rw [hownOf, leftOf_append]
  have hout {c : Cylinder} {r : Record} (hr : r ∈ left c) : r ∈ s.listWithout c q.exclude ∧ r ∉ s.conflictSet q := by
    rw [hleftOf, mem_leftOf] at hr
    exact ⟨hr.1, fun hc => hr.2 r (List.mem_append_left _ (List.mem_append_left _ hc)) rfl⟩
  refine ⟨⟨capacity, budget, hsteps.marks_eq, fun hlt => ?_, fun hge => ?_, fun before v after h => ?_, fun hbc => ?_⟩, fun m hm => ?_,
    hsteps.marks_nodup hslots, fun r hr => ?_, fun c hc hne hbank r hr => ?_, ?_, ?_, fun hbc => ?_, fun hbc => ?_⟩
  · rw [hnone] at hlt
    rcases hsteps.capacity_cases with ⟨-, h⟩ | ⟨hge, -⟩
    · exact h
    · omega
  · rw [hnone] at hge ⊢
    rcases hsteps.capacity_cases with ⟨hlt, -⟩ | ⟨-, v, hv, h⟩
    · omega
    · exact ⟨v, h, hfirst hv⟩
  · obtain ⟨hover, hv⟩ := hmarks before v after h
    rw [hmore]
    exact ⟨hover, hfirst hv⟩
  · rw [hmore, ← hleft']
    rcases hsteps.fits with ⟨hfalse, -⟩ | ⟨-, -, hover, -⟩
    · cases hbc.symm.trans hfalse
    · refine ⟨hover, fun x hx hy => ?_⟩
      have hfirm := hend.resolve_left (Nat.not_le.mpr hover) x hx
      rw [hyields.mp hy] at hfirm
      cases hfirm
  · obtain ⟨hmem, hdis, hne⟩ := planFit_marks hplan m hm
    exact ⟨hmem, by simpa [displaceable] using (Bool.and_eq_true _ _ ▸ hdis).1, (displaceable_iff.mp hdis).2, hne⟩
  · obtain ⟨hmem, hnot⟩ := hout hr
    exact Bool.eq_false_of_not_eq_true fun hc => hnot (mem_conflictSet_iff.mpr (.inl ⟨hmem, hc⟩))
  · obtain ⟨hmem, hnot⟩ := hout hr
    exact Bool.eq_false_of_not_eq_true fun hclash =>
      hnot (mem_conflictSet_iff.mpr (.inr ⟨c, mem_bankMates.mpr ⟨hc, hne, hbank⟩, hmem, hclash⟩))
  · have hle : left'.length ≤ (leftOf own' capacity).length := by
      rw [hleft']
      exact List.length_filter_le _ _
    rw [hleftOwn]
    refine lt_of_le_of_lt hle ?_
    rcases hsteps.capacity_cases with ⟨hlt, rfl⟩ | ⟨-, v, hv, rfl⟩
    · rwa [leftOf_nil]
    · refine lt_of_lt_of_le (leftOf_length_lt (nextVictim_mem hv).1) (le_trans ?_ (hcap q.cylinder (mem_allCylinders _)))
      rw [hown', leftOf_listWithout]
      exact List.length_filter_le _ _
  · have htotal : total (left q.cylinder) = sumDurations left' := by rw [hleftOwn]; rfl
    rw [htotal]
    rcases hsteps.fits with ⟨-, rfl, hfits⟩ | ⟨-, rfl, -, -, -, hroom⟩ <;> omega
  · rcases hsteps.fits with ⟨-, hd, -⟩ | ⟨htrue, -⟩
    · exact hd
    · cases hbc.symm.trans htrue
  · have htotal : total (left q.cylinder) = sumDurations left' := by rw [hleftOwn]; rfl
    rw [htotal]
    rcases hsteps.fits with ⟨hfalse, -⟩ | ⟨-, hd, hover, howner, hkind, hroom⟩
    · cases hbc.symm.trans hfalse
    · exact ⟨by omega, by omega, hd, howner, hkind⟩

/-! ### Why a plan refuses (R87 to R91) -/

theorem sumDurations_le_of_sublist {rs ls : List Record} (h : rs.Sublist ls) : sumDurations rs ≤ sumDurations ls :=
  (h.map _).sum_le_sum fun _ _ => Nat.zero_le _

/-- The steps that lead to a refusal: a record in conflict that does not yield, a full list with none that yields, or the durations that stay. -/
theorem planFit_refused {s : State} {q : PlanInput} {reason : Reason} {blocking : Option Slot}
    (h : s.planFit q = .refused reason blocking) :
    (reason = .conflict ∧ ∃ r, (s.conflictSet q).find? (fun r => !displaceable q.priority r) = some r ∧ blocking = some r.slot)
      ∨ ((∀ r ∈ s.conflictSet q, displaceable q.priority r = true) ∧ blocking = none
        ∧ ((reason = .cylinderFull ∧ s.engine.config.cap ≤ (leftOf (s.listWithout q.cylinder q.exclude) (s.conflictSet q)).length
            ∧ nextVictim q.priority (leftOf (s.listWithout q.cylinder q.exclude) (s.conflictSet q)) = none)
          ∨ (reason = .budget ∧ ∃ left, left.Sublist (s.listWithout q.cylinder q.exclude)
            ∧ (∀ r ∈ left, displaceable q.priority r = false) ∧ s.limits.budget < sumDurations left + q.duration
            ∧ (q.owner = .fuel → q.kind = .main → s.limits.budget < sumDurations left + 20)))) := by
  unfold planFit at h
  dsimp only at h
  split at h
  · next r hr =>
    cases h
    exact .inl ⟨rfl, r, hr, rfl⟩
  · next hconflict =>
    have hdis : ∀ r ∈ s.conflictSet q, displaceable q.priority r = true := by simpa using hconflict
    split at h
    · next hcapacity =>
      cases h
      refine .inr ⟨hdis, rfl, .inl ⟨rfl, ?_⟩⟩
      split at hcapacity
      · cases hcapacity
      · next hge => exact ⟨Nat.not_lt.mp hge, Option.map_eq_none_iff.mp hcapacity⟩
    · next capacity hcapacity =>
      split at h
      · cases h
      · next hover =>
        split at h
        · cases h
        · next hfuel =>
          cases h
          obtain ⟨hleft, -, -, hend⟩ := budgetMarks_spec _ (Prod.eta _).symm (le_refl _)
          refine .inr ⟨hdis, rfl, .inr ⟨rfl, _, ?_, hend.resolve_left hover, Nat.not_le.mp hover, fun howner hkind => ?_⟩⟩
          · rw [hleft]
            exact (List.filter_sublist.trans List.filter_sublist).trans List.filter_sublist
          · exact Nat.not_le.mp fun hle => hfuel ⟨howner, hkind, hle⟩

/-- Settles O35. -/
theorem planRefuses : Obligations.PlanRefuses := by
  unfold Obligations.PlanRefuses
  refine ⟨fun s q gap r => ?_, fun s q => ?_, fun s q reason blocking hp h => ?_⟩
  · intro start steps
    simp only [clashes, conflicts, Bool.or_eq_true, decide_eq_true_eq]
    rfl
  · intro others
    have hmates : s.bankMates q.cylinder = others := rfl
    simp only [conflictSet, listWithout, List.filter_filter, Bool.and_comm, hmates]
  · intro yields own firm
    have hslots := Pool.partitioned_slots_nodup hp
    have hyields {r : Record} : yields r ↔ displaceable q.priority r = true := displaceable_iff.symm
    rcases planFit_refused h with ⟨rfl, r, hr, rfl⟩ | ⟨hdis, rfl, ⟨rfl, hge, hnone⟩ | ⟨rfl, left, hsub, hfirm, hover, hfuel⟩⟩
    · obtain ⟨hnot, before, rest, heq, hbefore⟩ := List.find?_eq_some_iff_append.mp hr
      refine .inl ⟨rfl, before, r, rest, heq, fun x hx => hyields.mpr (by simpa using hbefore x hx), fun hy => ?_, rfl⟩
      simp [hyields.mp hy] at hnot
    · have hown : leftOf (s.listWithout q.cylinder q.exclude) (s.conflictSet q)
          = own.filter fun r => !(s.clashes q s.geometry.dwellSpan r) := by
        refine List.filter_congr fun r hr => ?_
        have h := mem_leftOf_conflictSet hslots (q := q) (r := r)
        rw [leftOf, List.mem_filter] at h
        rw [Bool.eq_iff_iff, and_congr_right_iff.mp h hr, Bool.not_eq_true']
      refine .inr (.inl ⟨rfl, rfl, fun r hr => hyields.mpr (hdis r hr), hown ▸ hge, fun r hr hclash hy => ?_⟩)
      have hfirm := nextVictim_none hnone r ((mem_leftOf_conflictSet hslots).mpr ⟨hr, hclash⟩)
      rw [hyields.mp hy] at hfirm
      cases hfirm
    · have hle : sumDurations left ≤ firm := by
        have hself : left.filter (fun r => !(displaceable q.priority r)) = left :=
          List.filter_eq_self.mpr fun r hr => by rw [hfirm r hr]; rfl
        exact hself ▸ sumDurations_le_of_sublist (hsub.filter _)
      exact .inr (.inr ⟨rfl, rfl, fun r hr => hyields.mpr (hdis r hr), by omega, fun ho hk => by have := hfuel ho hk; omega⟩)

end Sys2Proof.Machine
end

section
/-! PROOF. TAKE_AMEND (O32) and TAKE_PLACE (O33). -/

namespace Sys2Proof.Machine
open State

/-! ### Clamps (R81, R82, R83) -/

theorem clampPriority_eq (ceiling : Nat) (p : Byte) :
    clampPriority ceiling p.toNat
      = (if p = 0 then 1 else min p.toNat ceiling, (p = 0 || decide (ceiling < p.toNat))) := by
  have hzero : p = 0 ↔ p.toNat = 0 := by rw [← BitVec.toNat_inj]; rfl
  unfold clampPriority
  simp only [hzero]
  split_ifs with hover h h
  · omega
  · simp [hover, h, Nat.min_eq_right (Nat.le_of_lt hover)]
  · simp [h]
  · simp [hover, h, Nat.min_eq_left (Nat.not_lt.mp hover)]

theorem clampDuration_eq {d : Nat} (h : d ≠ 0) :
    clampDuration d = some (max 20 (min 4000 d), decide (d < 20) || decide (4000 < d)) := by
  unfold clampDuration Config.minDuration Config.maxDuration
  rw [if_neg h]
  split_ifs with hlow hhigh
  · simp [hlow, show max 20 (min 4000 d) = 20 by omega]
  · simp [hhigh, show max 20 (min 4000 d) = 4000 by omega]
  · simp [hlow, hhigh, show max 20 (min 4000 d) = d by omega]

theorem clampOffset_eq (w : Window) (x : Int) :
    clampOffset w x = (if x < w.lo then w.lo else if w.hi < x then w.hi else x, decide (x < w.lo) || decide (w.hi < x)) := by
  unfold clampOffset
  split_ifs with hlow hhigh
  · simp [hlow]
  · simp [hhigh]
  · simp [hlow, hhigh]

theorem toNat_ne_zero {w : Nat} {x : BitVec w} (h : x ≠ 0) : x.toNat ≠ 0 := fun h' => h (BitVec.eq_of_toNat_eq (by simpa using h'))

/-! ### TAKE_AMEND (R96 to R98) -/

/-- The offset an AMEND asks for, in the window of the record's kind, and its clamp flag (R83, R97). -/
theorem amendOffset_eq (present : Bool) (w : Window) (x y : Int) :
    (if present then clampOffset w x else (y, false))
      = (if present then (if x < w.lo then w.lo else if w.hi < x then w.hi else x) else y,
          present && (decide (x < w.lo) || decide (w.hi < x))) := by
  cases present
  · rfl
  · exact clampOffset_eq w x

/-- The duration an AMEND asks for, brought into range, and its clamp flag (R82, R97). -/
theorem amendDuration_eq {present : Bool} {x : Word16} (y : Nat) (h : present = true → x ≠ 0) :
    (if present then clampDuration x.toNat else some (y, false))
      = some (if present then max 20 (min 4000 x.toNat) else y, present && (decide (x.toNat < 20) || decide (4000 < x.toNat))) := by
  cases present
  · rfl
  · exact clampDuration_eq (toNat_ne_zero (h rfl))

/-- Settles O32. -/
theorem takeAmend : Obligations.TakeAmend := by
  unfold Obligations.TakeAmend
  intro t o n x s a b none' refused hnext
  have hexec : exec (.takeAmend t) s = .next (b.applyAmend o x) := exec_take hnext
  refine ⟨fun hoff hdur => ?_, fun hpresent => ⟨fun hno => ?_, fun k r hk hr ho ht => ?_⟩⟩
  · rw [hexec, applyAmend, hoff, hdur]
    rfl
  all_goals
    have hasks : (!x.offsetPresent && !x.durationPresent) = false := by
      rcases hpresent with h | h <;> simp [h]
  · rw [hexec, applyAmend, hasks, matched_none (by exact hno)]
    rfl
  · have hslot : r.slot = k := (Pool.find_some hr).2
    have hmatched : b.matched o x.slot x.tag = some r := matched_of hk (by exact hr) ho ht
    refine ⟨fun hphase => ?_, fun hphase hdur hzero => ?_, fun hphase hduration => ?_⟩
    · have hpending : r.isPending = false := Bool.eq_false_of_not_eq_true fun h => hphase (Record.not_pending h)
      rw [hexec, applyAmend, hasks, hmatched]
      dsimp only
      rw [hpending]
      rfl
    · have hpending : r.isPending = true := by rw [Record.isPending, hphase]
      rw [hexec, applyAmend, hasks, hmatched]
      dsimp only
      rw [hpending, hdur, hzero]
      rfl
    · intro w q f
      have hpending : r.isPending = true := by rw [Record.isPending, hphase]
      have hplan : exec (.takeAmend t) s = .next (match b.planFit q with
          | .refused reason blocking => b.refuseTake o .amend (some x.slot) x.tag reason f blocking
          | .accepted marks placed bc =>
            ((b.displaceMarked marks).replaceAmended r q.offset placed |> fun u =>
              if { f with budget := bc : ClampFlags }.any then u.raiseFlag o.link .clamp else u).append o.link
                (.amended r.slot r.tag { f with budget := bc } marks.length placed)) := by
        rw [hexec, applyAmend, hasks, hmatched]
        dsimp only
        rw [hpending, amendDuration_eq r.duration hduration]
        dsimp only
        rw [amendOffset_eq, ho, hslot]
        rfl
      refine ⟨fun reason blocking h => ?_, fun marks d bc h => ?_⟩
      · rw [hplan, h]
        rfl
      · intro m r' moved kept f'
        have htable : m.table = a.table := displaceMarked_table b marks
        have hreplaced : m.replaceAmended r q.offset d = m.setPool (if q.offset = r.offset then kept else moved) := by
          unfold replaceAmended
          split
          · rw [hslot]
            rfl
          · rw [htable]
            subst hslot
            rfl
        rw [hplan, h, ht, hslot]
        dsimp only
        rw [hreplaced]
        rfl

/-! ### TAKE_PLACE (R79 to R94) -/

theorem displaceMarked_cons {s : State} {m : Mark} (h : s.pool.find m.record.slot = some m.record) (ms : List Mark) :
    s.displaceMarked (m :: ms)
      = ((((s.dropWaiting m.record.slot).setPool
          { s.pool.unlink m.record.slot with free := m.record.slot :: s.pool.free }).append m.record.owner.link
          (.displaced m.record.slot m.record.tag m.record.cylinder m.record.kind m.record.carried m.cause)).raiseFlag
          m.record.owner.link .displaced).displaceMarked ms := by
  rw [displaceMarked, List.foldl_cons, freeSlot_eq h]
  rfl

theorem kindOf_code (k : Kind) {x : BitVec 4} (h : k.code = x.toNat) : kindOf x = some k := by
  obtain rfl : x = BitVec.ofNat 4 k.code := BitVec.eq_of_toNat_eq (by rw [← h]; cases k <;> rfl)
  cases k <;> rfl

theorem code_of_kindOf {k : Kind} {x : BitVec 4} (h : kindOf x = some k) : k.code = x.toNat := by
  revert h
  cases k <;> revert x <;> decide

theorem mayPlace_iff (o : Owner) (k : Kind) :
    mayPlace o k = true ↔ (o = .fuel ∧ k ≠ .late) ∨ (o = .thermal ∧ (k = .after ∨ k = .late)) := by
  cases o <;> cases k <;> decide

theorem readiness_badCylinder {s : State} {o : Owner} {r : PlaceRequest} (hvalid : s.engine.valid = true)
    (h : r.cylinder = 0 ∨ min 8 s.configured.length < r.cylinder.toNat) : s.readiness o r = .error .badCylinder := by
  rw [readiness, hvalid]
  simp only [Bool.not_true, Bool.false_eq_true, if_false]
  cases hc : cylinderOf r.cylinder.toNat with
  | none => rfl
  | some c =>
    have hnumber := cylinderNumber_of_cylinderOf hc
    have hrange := cylinderOf_isSome_iff.mp (Option.isSome_of_eq_some hc)
    have hlt : s.configured.length < cylinderNumber c := by
      rcases h with h | h
      · rw [h] at hrange
        exact absurd hrange.1 (by decide)
      · omega
    exact if_pos hlt

/-- A request for a configured cylinder is ready when its link may place its kind (R79). -/
theorem readiness_of_cylinder {s : State} {o : Owner} {r : PlaceRequest} {c : Cylinder} (hvalid : s.engine.valid = true)
    (hc : cylinderNumber c = r.cylinder.toNat) (hle : cylinderNumber c ≤ s.configured.length) :
    s.readiness o r = match kindOf r.kind with
      | none => .error .badKind
      | some k => if mayPlace o k then .ok (c, k) else .error .badKind := by
  have hof : cylinderOf r.cylinder.toNat = some c := hc ▸ cylinderOf_number c
  rw [readiness, hvalid, hof]
  simp only [Bool.not_true, Bool.false_eq_true, if_false]
  exact if_neg (Nat.not_lt.mpr hle)

/-- The firing cycle of a start angle (R35). -/
theorem firingCycle_eq (start lastAngle lead cycle : Nat) :
    let d := modCycle ((start : Int) - (lastAngle : Int))
    firingCycle start lastAngle lead cycle
      = (cycle + (if 11520 ≤ lastAngle + d then 1 else 0) + (if lead < d then 0 else 1)) % 65536 := by
  intro d
  have hd : angleFrom start lastAngle = d := rfl
  unfold firingCycle
  dsimp only
  rw [hd]
  by_cases h : lead < d
  · rw [if_pos h, if_pos h]
    rfl
  · rw [if_neg h, if_neg h, Nat.add_right_comm]
    rfl

/-- A PLACE that is ready, with a duration of its own, from its stamp on (R82 to R94). -/
def State.placeFitted (s : State) (o : Owner) (c : Cylinder) (k : Kind) (r : PlaceRequest) : State :=
  match s.planFit (s.plannedPulse o c k r) with
  | .refused reason blocking => s.refuseTake o .place none r.tag reason (s.plannedFlags o k r) blocking
  | .accepted marks placed bc =>
    let flags : ClampFlags := { s.plannedFlags o k r with budget := bc }
    let (u, slot) := s.applyPlan (s.plannedPulse o c k r) marks placed r.tag false r.repeats.toNat r.report
    let u := if flags.any then u.raiseFlag o.link .clamp else u
    match slot with
    | some slot => u.append o.link (.placed slot r.tag flags (!s.enabled c) marks.length placed)
    | none => u

theorem applyPlace_of_ready {s : State} {o : Owner} {r : PlaceRequest} {c : Cylinder} {k : Kind} (h : s.readiness o r = .ok (c, k))
    (hd : r.duration ≠ 0) :
    s.applyPlace o r
      = match s.stampRefusal r (startAngle (s.table.get c).tdc (s.plannedPulse o c k r).offset) with
        | some reason => s.refuseTake o .place none r.tag reason (s.plannedFlags o k r) none
        | none => match s.poolRefusal o with
          | some reason => s.refuseTake o .place none r.tag reason (s.plannedFlags o k r) none
          | none => s.placeFitted o c k r := by
  rw [applyPlace, h]
  dsimp only
  rw [clampDuration_eq (toNat_ne_zero hd), clampPriority_eq, clampOffset_eq]
  rfl

/-- An accepted PLACE: the displacements, the pop, the fill, CLAMP and the PLACED entry (R92 to R94). -/
theorem placeFitted_accepted {s : State} {o : Owner} {c : Cylinder} {k : Kind} {r : PlaceRequest} {marks : List Mark} {d : Nat}
    {bc : Bool} {slot : Slot} {free : List Slot} (hplan : s.planFit (s.plannedPulse o c k r) = .accepted marks d bc)
    (hfree : (s.displaceMarked marks).pool.free = slot :: free) :
    let m := s.displaceMarked marks
    let q := s.plannedPulse o c k r
    let f : ClampFlags := { s.plannedFlags o k r with budget := bc }
    let popped := if s.limits.reserve < m.pool.free.length ∧ free.length ≤ s.limits.reserve then
      (m.raiseFlag .fuel .poolLow).raiseFlag .thermal .poolLow else m
    let x : Record :=
      { slot := slot, owner := o, tag := r.tag, carried := false, cylinder := c, kind := k, offset := q.offset,
        start := startAngle (s.table.get c).tdc q.offset, duration := d, priority := q.priority, repeats := r.repeats.toNat,
        report := r.report, check := false, phase := .pending }
    s.placeFitted o c k r
      = ((popped.setPool (Pool.insert { m.pool with free := free } { x with check := x.parity })).clampRaised o f).append o.link
        (.placed slot r.tag f (!s.enabled c) marks.length d) := by
  intro m q f popped x
  have htable : m.table = s.table := displaceMarked_table s marks
  have hlimits : m.limits = s.limits := displaceMarked_limits s marks
  have hlength : m.pool.free.length - 1 = free.length := by rw [hfree]; rfl
  have hfilled : s.filled q marks d r.tag false r.repeats.toNat r.report slot
      = m.setPool (Pool.insert { m.pool with free := free } { x with check := x.parity }) := by
    have hpop : m.pool.pop = { m.pool with free := free } := by rw [Pool.pop, hfree]; rfl
    show m.setPool (m.pool.pop.insert (m.filledRecord slot q d r.tag false r.repeats.toNat r.report)) = _
    rw [hpop, filledRecord, htable]
    rfl
  rw [placeFitted, hplan]
  dsimp only
  rw [applyPlan_of_free hfree]
  dsimp only
  rw [hfilled, hlimits, hlength]
  by_cases hcrossed : s.limits.reserve < m.pool.free.length ∧ free.length ≤ s.limits.reserve
  · rw [if_pos hcrossed, show popped = _ from if_pos hcrossed]
    rfl
  · rw [if_neg hcrossed, show popped = _ from if_neg hcrossed]
    rfl

/-- Settles O33. -/
theorem takePlace : Obligations.TakePlace := by
  unfold Obligations.TakePlace
  refine ⟨fun s => rfl, fun s m ms h => displaceMarked_cons h ms, ?_⟩
  intro t o n r s a b none' refused configured hnext
  have hexec : exec (.takePlace t) s = .next (b.applyPlace o r) := exec_take hnext
  have hunready {reason : Reason} (h : b.readiness o r = .error reason) : exec (.takePlace t) s = .next (refused reason none' none) := by
    rw [hexec, applyPlace, h]
    rfl
  refine ⟨fun hvalid => hunready ?_, fun hvalid hc => hunready (readiness_badCylinder hvalid hc), fun c hvalid hc hle =>
    ⟨fun hkind => hunready ?_, fun k hk hmay => ?_⟩⟩
  · rw [readiness, hvalid]
    rfl
  · rw [readiness_of_cylinder hvalid hc hle]
    cases hk : kindOf r.kind with
    | none => rfl
    | some k => exact if_neg (mt (mayPlace_iff o k).mp (hkind k (code_of_kindOf hk)))
  · intro q f S d fires stampPasses poolPasses
    have hready : b.readiness o r = .ok (c, k) := by
      rw [readiness_of_cylinder hvalid hc hle, kindOf_code k hk]
      exact if_pos ((mayPlace_iff o k).mpr hmay)
    have hfires : firingCycle S b.clock.lastAngle b.engine.config.lead b.clock.cycle.toNat = fires := firingCycle_eq _ _ _ _
    refine ⟨fun hzero => ?_, fun hd => ?_⟩
    · rw [hexec, applyPlace, hready]
      dsimp only
      rw [hzero, clampPriority_eq]
      rfl
    · have hplace := applyPlace_of_ready hready hd
      have hstamped {reason : Reason} (h : b.stampRefusal r S = some reason) :
          exec (.takePlace t) s = .next (refused reason f none) := by
        rw [hexec, hplace, show b.stampRefusal r (startAngle (b.table.get c).tdc (b.plannedPulse o c k r).offset) = _ from h]
        rfl
      have hunstamped (h : stampPasses) : b.applyPlace o r = match b.poolRefusal o with
          | some reason => b.refuseTake o .place none r.tag reason f none
          | none => b.placeFitted o c k r := by
        have hnone : b.stampRefusal r S = none := by
          rw [stampRefusal, hfires]
          rcases h with h | ⟨hsync, hstamp⟩
          · rw [h]
            rfl
          · by_cases hp : r.stampPresent = true
            · rw [hp, if_neg (by decide), if_neg (by simp [hsync])]
              exact if_pos hstamp
            · rw [Bool.eq_false_of_not_eq_true hp]
              rfl
        rw [hplace, show b.stampRefusal r (startAngle (b.table.get c).tdc (b.plannedPulse o c k r).offset) = _ from hnone]
      have hfits (h : stampPasses) (hpool : poolPasses) : b.applyPlace o r = b.placeFitted o c k r := by
        have hnone : b.poolRefusal o = none := by
          rw [poolRefusal, if_neg (by simpa using hpool.1), if_neg fun h => by have := hpool.2 h.1; omega]
        rw [hunstamped h, hnone]
      refine ⟨fun hp hsync => hstamped ?_, fun hp hsync hne => hstamped ?_, fun h hempty => ?_, fun h hsome ho hlow => ?_,
        fun h hpool reason blocking hplan => ?_, fun h hpool marks placed bc hplan => ?_⟩
      · rw [stampRefusal, hp, if_neg (by decide), if_pos hsync]
      · rw [stampRefusal, hp, if_neg (by decide), if_neg (by simp [hsync]), hfires, stampVerdict, if_neg hne]
        split <;> rfl
      · rw [hexec, hunstamped h, poolRefusal, hempty]
        rfl
      · rw [hexec, hunstamped h, poolRefusal, if_neg (by simpa using hsome), if_pos ⟨ho, hlow⟩]
        rfl
      · rw [hexec, hfits h hpool, placeFitted, show b.planFit (b.plannedPulse o c k r) = _ from hplan]
        rfl
      · intro m slot free hfree crossed popped x f'
        rw [hexec, hfits h hpool, placeFitted_accepted hplan hfree]

end Sys2Proof.Machine
end

section
/-! PROOF. The leaving-SYNCED notice (O49), the release step (O50), the recomputation (O51), the boundary and the carry-over (O52). -/

namespace Sys2Proof.Machine

open State

/-! ### The leaving-SYNCED notice (R112) -/

/-- What the notice makes of a record, told which slots it takes and which of them it frees. -/
def Record.leaves (ks : List Slot) (frees : Slot → Bool) (r : Record) : Option Record :=
  if r.slot ∈ ks then (if frees r.slot then none else some { r with phase := .pending }) else some r

theorem Record.leaves_cons (k : Slot) (ks : List Slot) (frees : Slot → Bool) (r : Record) :
    (r.leaves [k] frees).bind (fun x => x.leaves ks frees) = r.leaves (k :: ks) frees := by
  unfold Record.leaves
  simp only [List.mem_cons]
  by_cases hk : r.slot = k
  · cases hf : frees r.slot <;> simp [hk, hk ▸ hf]
  · simp [hk]

/-- The pool after the notice has taken some slots, one after another. -/
def Pool.leaves (ks : List Slot) (frees : Slot → Bool) (p : Pool) : Pool :=
  { p with
    free := (ks.filter frees).reverse ++ p.free
    lists := p.lists.map fun _ l => l.filterMap fun r => r.leaves ks frees }

theorem Pool.leaves_nil (frees : Slot → Bool) (p : Pool) : p.leaves [] frees = p := by
  have hlists : (p.lists.map fun _ l => l.filterMap fun r => r.leaves [] frees) = p.lists := Eight.ext_get fun c => by
    rw [Eight.get_map]
    exact List.filterMap_some
  rw [Pool.leaves, hlists]
  rfl

theorem Pool.leaves_cons (k : Slot) (ks : List Slot) (frees : Slot → Bool) (p : Pool) :
    (p.leaves [k] frees).leaves ks frees = p.leaves (k :: ks) frees := by
  have hlists : ((p.lists.map fun _ l => l.filterMap fun r => r.leaves [k] frees).map fun _ l => l.filterMap fun r => r.leaves ks frees)
      = p.lists.map fun _ l => l.filterMap fun r => r.leaves (k :: ks) frees := Eight.ext_get fun c => by
    simp only [Eight.get_map, List.filterMap_filterMap]
    exact List.filterMap_congr fun r _ => Record.leaves_cons k ks frees r
  have hfree : (ks.filter frees).reverse ++ (([k].filter frees).reverse ++ p.free) = ((k :: ks).filter frees).reverse ++ p.free := by
    cases hk : frees k <;> simp [hk]
  simp only [Pool.leaves, hlists, hfree]

/-- One RELEASED record taken by the notice. -/
theorem leaveReleased_eq {s : State} {k : Slot} {r : Record} {frees : Slot → Bool} (hr : s.pool.find k = some r)
    (hrel : r.isReleased = true) (hfinal : r.final = frees k) :
    s.leaveReleased k = (s.dropWaiting k).setPool (s.pool.leaves [k] frees) := by
  rw [leaveReleased, hr]
  dsimp only
  rw [if_pos hrel, hfinal]
  cases hk : frees k with
  | true =>
    have hlists : (s.pool.unlink k).lists = s.pool.lists.map fun _ l => l.filterMap fun r => r.leaves [k] frees :=
      Eight.ext_get fun c => by
        rw [Pool.unlink, Eight.get_map, Eight.get_map, ← List.filterMap_eq_filter]
        refine List.filterMap_congr fun x _ => ?_
        rw [Record.leaves, ite_congr (propext List.mem_singleton) (fun _ => rfl) fun _ => rfl]
        by_cases hx : x.slot = k
        · simp [hx, hk]
        · simp [hx]
    rw [if_pos rfl, freeSlot_eq hr, Pool.leaves, List.filter_cons, hk, ← hlists]
    rfl
  | false =>
    have hlists : (s.pool.update k fun r => { r with phase := .pending }).lists
        = s.pool.lists.map fun _ l => l.filterMap fun r => r.leaves [k] frees :=
      Eight.ext_get fun c => by
        rw [Pool.update, Eight.get_map, Eight.get_map, ← List.filterMap_eq_map]
        refine List.filterMap_congr fun x _ => ?_
        rw [Record.leaves, ite_congr (propext List.mem_singleton) (fun _ => rfl) fun _ => rfl]
        by_cases hx : x.slot = k
        · simp [hx, hk]
        · simp [hx]
    rw [if_neg (by decide), returnPending, Pool.leaves, List.filter_cons, hk, ← hlists]
    rfl

/-- RELEASED records taken by the notice, one after another. -/
theorem foldl_leaveReleased {s : State} {ks : List Slot} {frees : Slot → Bool} (hnodup : ks.Nodup)
    (hks : ∀ k ∈ ks, ∃ r, s.pool.find k = some r ∧ r.isReleased = true ∧ r.final = frees k) :
    ks.foldl (fun s k => s.leaveReleased k) s = (s.setPool (s.pool.leaves ks frees)).setDrivers
      { s.drivers with bankA := s.drivers.bankA.without ks, bankB := s.drivers.bankB.without ks } := by
  induction ks generalizing s with
  | nil =>
    have hbank (x : BankDriver) : x.without [] = x := by simp [BankDriver.without]
    rw [Pool.leaves_nil, hbank, hbank]
    rfl
  | cons k ks ih =>
    obtain ⟨hk, hnodup⟩ := List.nodup_cons.mp hnodup
    obtain ⟨r, hr, hrel, hfinal⟩ := hks k List.mem_cons_self
    have hbank (x : BankDriver) : ({ x with waiting := x.waiting.filter fun e => e.slot != k } : BankDriver).without ks
        = x.without (k :: ks) := by
      simp only [BankDriver.without, List.filter_filter]
      congr 1
      refine List.filter_congr fun e _ => ?_
      rw [List.contains_cons, Bool.not_or, Bool.and_comm]
      rfl
    rw [List.foldl_cons, ih hnodup, leaveReleased_eq hr hrel hfinal, setPool_pool, Pool.leaves_cons, ← hbank, ← hbank]
    · rfl
    · intro j hj
      obtain ⟨x, -, hfind⟩ := leaveReleased_unreleases s k
      rw [hfind, if_neg (show ¬ j = k from fun h => hk (h ▸ hj))]
      exact hks j (List.mem_cons_of_mem k hj)

theorem mem_waitingSlots_iff {s : State} (hs : s.timelineSound) {r : Record} (hr : r ∈ s.pool.records) :
    r.slot ∈ s.waitingSlots ↔ r.isReleased = true := by
  have hagrees := ((timelineSound_iff s).mp hs).2
  have hfind := Pool.find_of_mem (Pool.partitioned_slots_nodup hs.1) hr
  rw [mem_waitingSlots]
  constructor
  · rintro ⟨b, hb⟩
    obtain ⟨x, hx, hrel⟩ := released_of_waits hs hb
    rwa [Option.some.inj (hfind.symm.trans hx)]
  · exact fun hrel => ⟨_, (hagrees.waits _ _).mpr ⟨_, Pool.releasedAt_eq_some.mpr ⟨r, hfind, hrel, rfl⟩, rfl⟩⟩

/-- Settles O49. -/
theorem leavingSyncedNotice : Obligations.LeavingSyncedNotice := by
  unfold Obligations.LeavingSyncedNotice
  intro s hs u returned
  have hslots := Pool.partitioned_slots_nodup hs.1
  have hperm := leavingOrder_perm s
  have hnodup : s.leavingOrder.Nodup := hperm.nodup_iff.mpr (waitingSlots_nodup hs)
  have hu : u = _ := foldl_leaveReleased (s := s) (frees := s.slotFinal) hnodup fun k hk => by
    obtain ⟨b, hb⟩ := (mem_waitingSlots s k).mp (hperm.mem_iff.mp hk)
    obtain ⟨r, hr, hrel⟩ := released_of_waits hs hb
    exact ⟨r, hr, hrel, by rw [slotFinal, hr]⟩
  have htaken {r : Record} (hr : r ∈ s.pool.records) : r.slot ∈ s.leavingOrder ↔ r.isReleased = true := by
    rw [hperm.mem_iff, mem_waitingSlots_iff hs hr]
  have hfinal {r : Record} (hr : r ∈ s.pool.records) : s.slotFinal r.slot = r.final := by
    rw [slotFinal, Pool.find_of_mem hslots hr]
  rw [hu]
  refine ⟨fun c => ?_, fun b => ?_, rfl, ⟨(s.leavingOrder.filter s.slotFinal).reverse, ?_, rfl⟩, rfl, rfl, rfl, rfl, rfl, rfl, rfl, rfl,
    rfl, rfl, rfl⟩
  · rw [setDrivers_pool, setPool_pool, Pool.leaves, Eight.get_map, ← List.filterMap_eq_filter, List.map_filterMap]
    refine List.filterMap_congr fun r hr => ?_
    have hmem : r ∈ s.pool.records := (Pool.mem_records _ _).mpr ⟨c, hr⟩
    simp only [Record.leaves, htaken hmem, hfinal hmem, returned]
    cases hrel : r.isReleased <;> cases hf : r.final <;> simp [Option.guard, hrel, hf]
  · have hempty (b : Bank) : (s.drivers.get b).without s.leavingOrder = { s.drivers.get b with waiting := [] } := by
      unfold BankDriver.without
      congr 1
      refine List.filter_eq_nil_iff.mpr fun e he => ?_
      have hmem : e.slot ∈ s.leavingOrder :=
        hperm.mem_iff.mpr ((mem_waitingSlots s _).mpr ⟨b, List.mem_map_of_mem he⟩)
      simp [hmem]
    cases b
    · exact hempty .bankA
    · exact hempty .bankB
  · refine (List.reverse_perm _).trans ((List.perm_ext_iff_of_nodup (hnodup.filter _) (hslots.sublist (List.filter_sublist.map _))).mpr
      fun k => ?_)
    simp only [List.mem_filter, List.mem_map, hperm.mem_iff, Bool.and_eq_true]
    constructor
    · rintro ⟨hk, hf⟩
      obtain ⟨b, hb⟩ := (mem_waitingSlots s k).mp hk
      obtain ⟨r, hr, hrel⟩ := released_of_waits hs hb
      obtain ⟨hmem, rfl⟩ := Pool.find_some hr
      exact ⟨r, ⟨hmem, hrel, hfinal hmem ▸ hf⟩, rfl⟩
    · rintro ⟨r, ⟨hmem, hrel, hf⟩, rfl⟩
      exact ⟨(mem_waitingSlots_iff hs hmem).mpr hrel, (hfinal hmem).trans hf⟩

/-! ### The check bit (R46) -/

theorem countP_add_parity {α : Type} (p q : α → Bool) (l : List α) :
    (l.countP p + l.countP q) % 2 = (l.countP fun a => p a ^^ q a) % 2 := by
  induction l with
  | nil => rfl
  | cons a l ih =>
    simp only [List.countP_cons]
    cases hp : p a <;> cases hq : q a <;> simp only [Bool.false_eq_true, if_true, if_false, Bool.xor_false, Bool.xor_true,
      Bool.not_false, Bool.not_true] <;> omega

/-- One bit of a number of `w` bits, changed. -/
def FlipsBit (w x y : Nat) : Prop := ∃ i, i < w ∧ BitVec.ofNat w y = BitVec.ofNat w x ^^^ (1#w <<< i)

/-- A changed bit changes the number of one bits by one. -/
theorem onesIn_flip {w x y : Nat} (h : FlipsBit w x y) : (onesIn w x + onesIn w y) % 2 = 1 := by
  obtain ⟨i, hi, hflip⟩ := h
  have hbit : ∀ j ∈ List.range w, (x.testBit j ^^ y.testBit j) = (j == i) := fun j hj => by
    have hj := List.mem_range.mp hj
    have hget := congrArg (fun b => b.getLsbD j) hflip
    simp only [BitVec.getLsbD_xor, BitVec.getLsbD_ofNat, hj, decide_true, Bool.true_and, getLsbD_one_shiftLeft hi] at hget
    rw [hget]
    cases x.testBit j <;> simp [beq_eq_decide]
  rw [onesIn, onesIn, countP_add_parity, List.countP_congr fun j hj => by rw [hbit j hj], ← List.count]
  rw [List.count_eq_one_of_mem List.nodup_range (List.mem_range.mpr hi)]

theorem parity_ne_of_ones {r y : Record} (h : (r.ones + y.ones) % 2 = 1) : r.parity ≠ y.parity := by
  intro heq
  simp only [Record.parity] at heq
  have : r.ones % 2 = 1 ↔ y.ones % 2 = 1 := by simpa using Bool.eq_iff_iff.mp heq
  omega

/-- A record whose check bit was right fails its check when one stored bit of a covered field is changed (R46, R47). -/
theorem check_ne_of_ones {r y : Record} (hr : r.check = r.parity) (hy : y.check = r.check) (h : (r.ones + y.ones) % 2 = 1) :
    y.check ≠ y.parity := by
  rw [hy, hr]
  exact parity_ne_of_ones h

theorem checkFails (r : Record) (hr : r.check = r.parity) :
    let fails (y : Record) : Prop := y.check ≠ y.parity
    fails { r with check := !r.check } ∧ fails { r with carried := !r.carried } ∧ fails { r with report := !r.report }
    ∧ (∀ x, FlipsBit 8 r.tag.toNat x.toNat → fails { r with tag := x })
    ∧ (∀ x, FlipsBit 4 (cylinderNumber r.cylinder) (cylinderNumber x) → fails { r with cylinder := x })
    ∧ (∀ x, FlipsBit 3 r.kind.code x.code → fails { r with kind := x })
    ∧ (∀ x, FlipsBit 16 (BitVec.ofInt 16 r.offset).toNat (BitVec.ofInt 16 x).toNat → fails { r with offset := x })
    ∧ (∀ x, FlipsBit 14 r.start x → fails { r with start := x }) ∧ (∀ x, FlipsBit 16 r.duration x → fails { r with duration := x })
    ∧ (∀ x, FlipsBit 4 r.priority x → fails { r with priority := x }) ∧ ∀ x, FlipsBit 8 r.repeats x → fails { r with repeats := x } := by
  intro fails
  have hflag (b : Bool) : FlipsBit 1 b.toNat (!b).toNat := ⟨0, by decide, by cases b <;> rfl⟩
  refine ⟨?_, check_ne_of_ones hr rfl ?_, check_ne_of_ones hr rfl ?_, fun x h => check_ne_of_ones hr rfl ?_,
    fun x h => check_ne_of_ones hr rfl ?_, fun x h => check_ne_of_ones hr rfl ?_, fun x h => check_ne_of_ones hr rfl ?_,
    fun x h => check_ne_of_ones hr rfl ?_, fun x h => check_ne_of_ones hr rfl ?_, fun x h => check_ne_of_ones hr rfl ?_,
    fun x h => check_ne_of_ones hr rfl ?_⟩
  · show (!r.check) ≠ r.parity
    rw [hr]
    cases r.parity <;> decide
  · have := onesIn_flip (hflag r.carried)
    simp only [Record.ones]
    omega
  · have := onesIn_flip (hflag r.report)
    simp only [Record.ones]
    omega
  all_goals
    have := onesIn_flip h
    simp only [Record.ones]
    omega

/-! ### The release event (R101) -/

theorem releaseEvent_eq (s : State) (old new p : Nat) :
    s.releaseEvent old new p = s.configured.foldl (fun x c =>
      let y := (x.boundaryStep c old new).carryStep c old new
      let past (r : Record) : Nat := modCycle ((modCycle ((r.start : Int) - y.engine.config.lead) : Int) - old)
      let passed := (y.pool.lists.get c).filter fun r =>
        r.isPending && decide (1 ≤ past r ∧ past r ≤ modCycle ((new : Int) - old))
      let before := (y.pool.lists.get c).filter Record.isReleased
      let z := passed.foldl (fun z r => z.releaseOne r.slot new p) y
      before.foldl (fun z r => z.recomputeOne r.slot old new p) z) s := by
  refine congrArg (fun f => List.foldl f s s.configured) (funext fun x => funext fun c => ?_)
  have hpassed (y : State) (r : Record) : inScan old new (releasePoint r.start y.engine.config.lead)
      = decide (1 ≤ modCycle ((modCycle ((r.start : Int) - y.engine.config.lead) : Int) - old)
        ∧ modCycle ((modCycle ((r.start : Int) - y.engine.config.lead) : Int) - old) ≤ modCycle ((new : Int) - old)) := by
    rw [Bool.eq_iff_iff, inScan_iff, decide_eq_true_eq]
    rfl
  simp only [releaseCylinder, releaseSlots, releasedSlots, List.foldl_map, hpassed]

/-! ### The place in a waiting list (R110) -/

/-- The keys of two RELEASED records stand in the order that the waiting list keeps. -/
theorem startsBefore_iff {s : State} {j k : Slot} {x y : Record} (hx : s.pool.find j = some x) (hy : s.pool.find k = some y)
    (hxr : x.isReleased = true) (hyr : y.isReleased = true) :
    s.startsBefore j k ↔ keyBefore (s.waitKey j) (s.waitKey k) = true := by
  cases hxp : x.phase with
  | pending => simp [Record.isReleased, hxp] at hxr
  | firing f t => simp [Record.isReleased, hxp] at hxr
  | released f t =>
    cases hyp : y.phase with
    | pending => simp [Record.isReleased, hyp] at hyr
    | firing g u => simp [Record.isReleased, hyp] at hyr
    | released g u =>
      have hkey : keyBefore (s.waitKey j) (s.waitKey k) = true ↔ (t - s.timeBase).toInt < (u - s.timeBase).toInt
          ∨ ((t - s.timeBase).toInt = (u - s.timeBase).toInt
            ∧ (s.geometry.order.idxOf x.cylinder < s.geometry.order.idxOf y.cylinder
              ∨ (s.geometry.order.idxOf x.cylinder = s.geometry.order.idxOf y.cylinder ∧ x.offset < y.offset))) := by
        rw [waitKey, waitKey, hx, hy]
        dsimp only
        rw [hxp, hyp]
        simp [keyBefore, relativeTo]
      rw [hkey]
      constructor
      · rintro ⟨x', y', f', g', t', u', hx', hy', hxp', hyp', h⟩
        cases hx.symm.trans hx'
        cases hy.symm.trans hy'
        cases hxp.symm.trans hxp'
        cases hyp.symm.trans hyp'
        exact h
      · exact fun h => ⟨x, y, f, g, t, u, hx, hy, hxp, hyp, h⟩

/-- A record that starts before another is RELEASED, and so is the other. -/
theorem released_of_startsBefore {s : State} {j k : Slot} (h : s.startsBefore j k) :
    keyBefore (s.waitKey j) (s.waitKey k) = true := by
  obtain ⟨x, y, f, g, t, u, hx, hy, hxp, hyp, -⟩ := id h
  exact (startsBefore_iff hx hy (by simp [Record.isReleased, hxp]) (by simp [Record.isReleased, hyp])).mp h

/-- An entry that joins a waiting list of RELEASED records stands at the place of its planned start, firing position and offset. -/
theorem joinWaiting_place {s : State} {b : Bank} {e : WaitEntry} {l : List WaitEntry} (hl : (s.drivers.get b).waiting = l)
    {r : Record} (hr : s.pool.find e.slot = some r) (hrel : r.isReleased = true) :
    ∃ before after, l = before ++ after ∧ ((s.joinWaiting b e).drivers.get b).waiting = before ++ e :: after
      ∧ ((∀ x ∈ l, ∃ y, s.pool.find x.slot = some y ∧ y.isReleased = true) →
        (∀ x ∈ before, ¬ (s.joinWaiting b e).startsBefore e.slot x.slot)
          ∧ ∀ x ∈ after.head?, (s.joinWaiting b e).startsBefore e.slot x.slot) := by
  obtain ⟨before, after, hsplit, hinsert, hbefore, hafter⟩ := insertWait_split s e l
  have hsame (j k : Slot) : (s.joinWaiting b e).startsBefore j k ↔ s.startsBefore j k := by
    unfold startsBefore
    rfl
  refine ⟨before, after, hsplit, ?_, fun hall => ⟨fun x hx hstarts => ?_, fun x hx => ?_⟩⟩
  · rw [joinWaiting_get, if_pos rfl, hl]
    exact hinsert
  · have htrue := released_of_startsBefore ((hsame _ _).mp hstarts)
    rw [hbefore x hx] at htrue
    cases htrue
  · obtain ⟨y, hy, hyr⟩ := hall x (hsplit ▸ List.mem_append_right _ (List.mem_of_mem_head? hx))
    exact (hsame _ _).mpr ((startsBefore_iff hr hy hrel hyr).mpr (hafter x hx))

/-! ### The release of a PENDING record (R105 to R107) -/

theorem releaseOne_pending {s : State} {k : Slot} {r : Record} (hr : s.pool.find k = some r) (hphase : r.phase = .pending)
    (new p : Nat) : s.releaseOne k new p
      = if !r.intact then s.quarantine r
        else if !s.enabled r.cylinder then s.endUnstarted k (.suppressed .disabled)
        else if s.overspeedSuppression then s.endUnstarted k (.suppressed .overspeed)
        else match budgetAtRelease s.limits.budget (s.table.get r.cylinder).released r.duration with
          | none => s.endUnstarted k .budgetSkipped
          | some (duration, shortened) => s.releaseRecord r duration shortened new p := by
  have hpending : r.isPending = true := by rw [Record.isPending, hphase]
  rw [releaseOne, hr]
  dsimp only
  rw [hpending]
  exact if_neg (by decide)

theorem overspeedSuppression_iff (s : State) :
    s.overspeedSuppression = (s.limits.overspeedActive && !s.faults.mask.getLsbD 9) := by
  rw [overspeedSuppression, masked_eq_bit]
  rfl

theorem budgetAtRelease_some {budget total d : Nat} (h : total + d ≤ budget ∨ 20 ≤ (budget : Int) - total) :
    budgetAtRelease budget total d = some (if total + d ≤ budget then d else budget - total, !decide (total + d ≤ budget)) := by
  unfold budgetAtRelease Config.minDuration
  by_cases hfits : total + d ≤ budget
  · simp [hfits]
  · rw [if_neg hfits, if_neg hfits, if_pos (by omega)]
    simp [hfits]

theorem budgetAtRelease_none {budget total d : Nat} (h : budget < total + d) (hlow : (budget : Int) - total < 20) :
    budgetAtRelease budget total d = none := by
  unfold budgetAtRelease Config.minDuration
  rw [if_neg (by omega), if_neg (by omega)]

/-- The state with a record RELEASED and counted in the released total, before it joins its waiting list. -/
def State.releasing (s : State) (r : Record) (f : FiringFields) (planned : Time) : State :=
  (s.updateRecord r.slot fun x => { x with phase := .released f planned }).setCylinder r.cylinder
    { s.table.get r.cylinder with released := (s.table.get r.cylinder).released + f.duration }

theorem releaseRecord_eq (s : State) (r : Record) (d : Nat) (shortened : Bool) (new p : Nat) :
    s.releaseRecord r d shortened new p
      = (s.releasing r { duration := d, shortened := shortened, final := false } (plannedStart s.timeBase r.start new p)).joinWaiting
        (s.bankOf r.cylinder) { slot := r.slot, late := false } := by
  have hbank : (s.releasing r { duration := d, shortened := shortened, final := false }
      (plannedStart s.timeBase r.start new p)).bankOf = s.bankOf := setCylinder_bankOf r.cylinder rfl
  rw [← hbank]
  rfl

/-- Settles O50. -/
theorem releaseStep : Obligations.ReleaseStep := by
  unfold Obligations.ReleaseStep
  refine ⟨releaseEvent_eq, fun r hr => checkFails r hr, ?_⟩
  intro s k r at' p hr hphase u e B d f T
  obtain ⟨-, hslot⟩ := Pool.find_some hr
  have hu := releaseOne_pending hr hphase at' p
  have hintact (h : r.check = r.parity) : r.intact = true := by rw [Record.intact, h]; exact beq_self_eq_true _
  refine ⟨fun hcheck => ?_, fun hcheck => ⟨fun hoff => ?_, fun hon hactive hmask => ?_, fun hon hcalm => ⟨fun hover hlow => ?_, fun hroom => ?_⟩⟩⟩
  · have hfails : r.intact = false := by simpa [Record.intact] using hcheck
    have hstep : u = s.quarantine r := by
      rw [show u = _ from hu, hfails]
      rfl
    rw [hstep, quarantine, Pool.quarantineRecord, hslot, hr, reportDisplaced, hslot]
  · rw [show u = _ from hu, hintact hcheck, hoff]
    rfl
  · rw [show u = _ from hu, hintact hcheck, hon, overspeedSuppression_iff, hactive, hmask]
    rfl
  all_goals
    have hcalm' : s.overspeedSuppression = false := by
      rw [overspeedSuppression_iff]
      rcases hcalm with h | h <;> simp [h]
  · rw [show u = _ from hu, hintact hcheck, hon, hcalm', budgetAtRelease_none hover hlow]
    rfl
  · have hrelease : u = (s.releasing r f T).joinWaiting (s.bankOf r.cylinder) { slot := k, late := false } := by
      rw [show u = _ from hu, hintact hcheck, hon, hcalm', budgetAtRelease_some hroom]
      dsimp only
      rw [releaseRecord_eq, hslot]
      rfl
    have hpool : (s.releasing r f T).pool = s.pool.update k fun x => { x with phase := .released f T } := by rw [releasing, hslot]; rfl
    have hfind (j : Slot) : (s.releasing r f T).pool.find j = if j = k then some { r with phase := .released f T } else s.pool.find j := by
      rw [hpool, Pool.find_update s.pool k j (by exact fun _ => rfl), hr]
      rfl
    obtain ⟨before, after, hsplit, hjoined, hplace⟩ := joinWaiting_place (s := s.releasing r f T) (b := s.bankOf r.cylinder)
      (e := { slot := k, late := false }) rfl (r := { r with phase := .released f T }) (by rw [hfind, if_pos rfl]) rfl
    refine ⟨?_, ?_, ⟨before, after, hsplit, ?_, fun hs => ?_⟩, fun b hb => ?_, ?_, ?_, ?_, ?_⟩
    · rw [hrelease]
      exact hpool
    · rw [hrelease]
      rfl
    · rw [hrelease]
      exact hjoined
    · rw [hrelease]
      refine hplace fun x hx => ?_
      obtain ⟨y, hy, hrel⟩ := released_of_waits hs (b := s.bankOf r.cylinder) (List.mem_map_of_mem hx)
      have hne : x.slot ≠ k := fun h => by
        rw [h, hr] at hy
        cases hy
        simp [Record.isReleased, hphase] at hrel
      exact ⟨y, by rw [hfind, if_neg hne, hy], hrel⟩
    · rw [hrelease, joinWaiting_get, if_neg hb]
      rfl
    all_goals
      rw [hrelease]
      simp [joinWaiting, releasing]

/-! ### The recomputation (R108, R109) -/

theorem update_congr {p : Pool} {k : Slot} {f g : Record → Record} (h : ∀ r ∈ p.records, r.slot = k → f r = g r) :
    p.update k f = p.update k g := by
  have hlists : (p.update k f).lists = (p.update k g).lists := Eight.ext_get fun c => by
    rw [Pool.update, Pool.update, Eight.get_map, Eight.get_map]
    refine List.map_congr_left fun r hr => ?_
    split
    · next hslot => exact h r ((Pool.mem_records _ _).mpr ⟨c, hr⟩) hslot
    · rfl
  exact congrArg (fun l => { p with lists := l : Pool }) hlists

theorem lateNote_iff (s : State) (k : Slot) :
    s.lateNote k = true ↔ ∃ e ∈ s.drivers.bankA.waiting ++ s.drivers.bankB.waiting, e.slot = k ∧ e.late = true := by
  simp only [lateNote, List.any_eq_true, Bool.and_eq_true, beq_iff_eq]

/-- A RELEASED record planned anew, and its entry put back at its place. -/
theorem replanned {s : State} (hs : s.timelineSound) {k : Slot} {r : Record} {f : FiringFields} {T : Time} (hr : s.pool.find k = some r)
    (hphase : r.phase = .released f T) (planned : Time) (note : Bool) :
    let u := (s.setPlanned k planned).reposition k (s.bankOf r.cylinder) note
    u.pool = s.pool.update k (fun x => { x with phase := .released f planned })
    ∧ (∃ before after,
      (s.drivers.get (s.bankOf r.cylinder)).waiting.filter (fun e => e.slot != k) = before ++ after
      ∧ (u.drivers.get (s.bankOf r.cylinder)).waiting = before ++ { slot := k, late := note } :: after
      ∧ (∀ x ∈ before, ¬ u.startsBefore k x.slot) ∧ ∀ x ∈ after.head?, u.startsBefore k x.slot)
    ∧ (∀ b, b ≠ s.bankOf r.cylinder → u.drivers.get b = s.drivers.get b)
    ∧ u.drivers.fire = s.drivers.fire ∧ u.table = s.table ∧ u.links = s.links ∧ u.faults = s.faults := by
  intro u
  have hslots := Pool.partitioned_slots_nodup hs.1
  have hagrees := ((timelineSound_iff s).mp hs).2
  let m := (s.setPlanned k planned).dropWaiting k
  have hm : m.pool = s.pool.update k fun x => { x with phase := .released f planned } := update_congr fun x hx hslot => by
    have hsame := (Pool.find_of_mem hslots hx).symm.trans (hslot ▸ hr)
    cases Option.some.inj hsame
    rw [hphase]
  have hfind (j : Slot) : m.pool.find j = if j = k then some { r with phase := .released f planned } else s.pool.find j := by
    rw [hm, Pool.find_update s.pool k j (by exact fun _ => rfl), hr]
    rfl
  have hwaiting (b : Bank) : (m.drivers.get b).waiting = (s.drivers.get b).waiting.filter fun e => e.slot != k := by cases b <;> rfl
  obtain ⟨before, after, hsplit, hjoined, hplace⟩ := joinWaiting_place (s := m) (e := { slot := k, late := note })
    (hwaiting (s.bankOf r.cylinder)) (r := { r with phase := .released f planned }) (by rw [hfind, if_pos rfl]) rfl
  refine ⟨hm, ⟨before, after, hsplit, hjoined, hplace fun x hx => ?_⟩, fun b hb => ?_, ?_, ?_, ?_, ?_⟩
  · obtain ⟨hx, hne⟩ := List.mem_filter.mp hx
    obtain ⟨y, hy, hrel⟩ := released_of_waits hs (b := s.bankOf r.cylinder) (List.mem_map_of_mem hx)
    exact ⟨y, by rw [hfind, if_neg (by simpa using hne), hy], hrel⟩
  · have hother : (m.drivers.get b) = { s.drivers.get b with waiting := (s.drivers.get b).waiting.filter fun e => e.slot != k } := by
      cases b <;> rfl
    have hkept : (s.drivers.get b).waiting.filter (fun e => e.slot != k) = (s.drivers.get b).waiting := by
      refine List.filter_eq_self.mpr fun x hx => ?_
      have hne : x.slot ≠ k := fun h => by
        obtain ⟨c, hc, hbank⟩ := (hagrees.waits b k).mp (h ▸ List.mem_map_of_mem hx)
        obtain ⟨y, hy, -, rfl⟩ := Pool.releasedAt_eq_some.mp hc
        cases hr.symm.trans hy
        exact hb hbank.symm
      simpa using hne
    rw [show u = m.joinWaiting _ _ from rfl, joinWaiting_get, if_neg hb, hother, hkept]
  all_goals simp [u, reposition, joinWaiting, dropWaiting, setPlanned, updateRecord]

/-- Settles O51. -/
theorem recomputeStep : Obligations.RecomputeStep := by
  unfold Obligations.RecomputeStep
  intro s k r f T old new p hs hr hphase u d passed late due
  have hrel : r.isReleased = true := by rw [Record.isReleased, hphase]
  have hlate : s.lateNote k = true ↔ late := lateNote_iff s k
  have hu : u = if !r.isReleased || s.lateNote k then s
      else if inScan old new r.start then (s.setPlanned k s.timeBase).reposition k (s.bankOf r.cylinder) true
      else (s.setPlanned k (plannedStart s.timeBase r.start new p)).reposition k (s.bankOf r.cylinder) false := by
    show s.recomputeOne k old new p = _
    rw [recomputeOne, hr]
  have hscan : inScan old new r.start = true ↔ passed := inScan_iff
  refine ⟨fun h => ?_, fun h hp => ?_, fun h hp => ?_⟩
  · rw [hu, hrel, hlate.mpr h]
    rfl
  all_goals
    have hnote : s.lateNote k = false := Bool.eq_false_of_not_eq_true (mt hlate.mp h)
  · have hstep : u = (s.setPlanned k s.timeBase).reposition k (s.bankOf r.cylinder) true := by
      rw [hu, hrel, hnote, if_neg (by decide), if_pos (hscan.mpr hp)]
    unfold due
    rw [hstep]
    exact replanned hs hr hphase _ _
  · have hstep : u = (s.setPlanned k (plannedStart s.timeBase r.start new p)).reposition k (s.bankOf r.cylinder) false := by
      rw [hu, hrel, hnote, if_neg (by decide), if_neg (mt hscan.mp hp)]
    unfold due
    rw [hstep]
    exact replanned hs hr hphase _ _

/-! ### The firing boundary and the carry-over decision (R102, R103) -/

theorem displaceMarked_free (s : State) (marks : List Mark) :
    ∃ freed, (s.displaceMarked marks).pool.free = freed ++ s.pool.free := by
  induction marks generalizing s with
  | nil => exact ⟨[], rfl⟩
  | cons m marks ih =>
    obtain ⟨freed, h⟩ := ih ((s.freeSlot m.record.slot).reportDisplaced m.record m.cause)
    have hone : ∃ head, (s.freeSlot m.record.slot).pool.free = head ++ s.pool.free := by
      rw [freeSlot, setPool_pool, Pool.freeRecord]
      split
      · exact ⟨[_], rfl⟩
      · exact ⟨[], rfl⟩
    obtain ⟨head, hhead⟩ := hone
    refine ⟨freed ++ head, ?_⟩
    rw [reportDisplaced_pool, hhead, ← List.append_assoc] at h
    exact h

/-- A carry-over decision is made. -/
def State.carryDecides (s : State) (c : Cylinder) (old new : Nat) : Bool :=
  inScan old new (decisionPoint (s.table.get c).tdc s.engine.config.mainWindow.lo s.engine.config.lead) && s.enabled c
    && !s.limits.overspeedActive && !s.hasFuelMain c

theorem carryStep_eq (s : State) (c : Cylinder) (old new : Nat) :
    s.carryStep c old new = if s.carryDecides c old new then s.carryOver c else s := rfl

/-- An accepted carried MAIN (R95, R103). -/
theorem placeCarried_accepted {s : State} {c : Cylinder} {x : CarryEntry} {marks : List Mark} {d : Nat} {bc : Bool} {slot : Slot}
    {free : List Slot} (hsome : s.pool.free ≠ [])
    (hplan : s.planFit
      { owner := .fuel, cylinder := c, kind := .main, offset := x.offset, duration := x.duration,
        priority := s.limits.fuelCeiling, exclude := none } = .accepted marks d bc)
    (hfree : (s.displaceMarked marks).pool.free = slot :: free) :
    let m := s.displaceMarked marks
    let crossed := s.limits.reserve < m.pool.free.length ∧ free.length ≤ s.limits.reserve
    let popped := if crossed then (m.raiseFlag .fuel .poolLow).raiseFlag .thermal .poolLow else m
    let r : Record :=
      { slot := slot, owner := .fuel, tag := 0, carried := true, cylinder := c, kind := .main, offset := x.offset,
        start := startAngle (s.table.get c).tdc x.offset, duration := d, priority := s.limits.fuelCeiling, repeats := 1,
        report := true, check := false, phase := .pending }
    let filled := popped.setPool (Pool.insert { m.pool with free := free } { r with check := r.parity })
    s.placeCarried c x = (if bc then filled.raiseFlag .fuel .clamp else filled, true) := by
  intro m crossed popped r filled
  have hlimits : m.limits = s.limits := displaceMarked_limits s marks
  have htable : m.table = s.table := displaceMarked_table s marks
  have hlength : m.pool.free.length - 1 = free.length := by rw [hfree]; rfl
  have hpop : m.pool.pop = { m.pool with free := free } := by rw [Pool.pop, hfree]; rfl
  have hempty : s.pool.free.length ≠ 0 := fun h => hsome (List.length_eq_zero_iff.mp h)
  rw [placeCarried, if_neg hempty]
  dsimp only
  rw [hplan]
  dsimp only
  rw [applyPlan_of_free hfree]
  dsimp only
  rw [hlimits, hlength, State.filled, hpop, filledRecord, htable]
  by_cases hcrossed : crossed
  · rw [if_pos hcrossed, show filled = ((m.raiseFlag .fuel .poolLow).raiseFlag .thermal .poolLow).setPool _ from
      congrArg (fun x : State => x.setPool _) (if_pos hcrossed)]
    rfl
  · rw [if_neg hcrossed, show filled = m.setPool _ from congrArg (fun x : State => x.setPool _) (if_neg hcrossed)]
    rfl

/-- Settles O52. -/
theorem boundaryAndCarry : Obligations.BoundaryAndCarry := by
  unfold Obligations.BoundaryAndCarry
  intro s c old new e scanned point decides dry
  have hscan (x : Nat) : inScan old new x = true ↔ scanned x := inScan_iff
  have hpoint : decisionPoint e.tdc s.engine.config.mainWindow.lo s.engine.config.lead = point := rfl
  have hdecides : s.carryDecides c old new = true ↔ decides := by
    simp only [carryDecides, Bool.and_eq_true, Bool.not_eq_true']
    rw [hpoint, hscan]
    simp [decides, hasFuelMain, and_assoc]
  have hstep (h : decides) : s.carryStep c old new = s.carryOver c := by rw [carryStep_eq, if_pos (hdecides.mpr h)]
  refine ⟨fun h => ?_, fun h => ?_, fun h => ?_, fun h hnone => ?_, fun h hlimit => ?_, fun x h hsome hcount => ?_⟩
  · exact if_pos ((hscan _).mpr h)
  · exact if_neg (mt (hscan _).mp h)
  · rw [carryStep_eq, if_neg (mt hdecides.mp h)]
  · rw [hstep h, carryOver, show (s.table.get c).carry = _ from hnone]
  · rw [hstep h, carryOver]
    split
    · exact if_neg (Nat.not_lt.mpr hlimit)
    · rfl
  · intro q
    have hplaces : s.carryStep c old new = match s.placeCarried c x with
        | (s, true) => (s.setCylinder c { s.table.get c with carryCount := (s.table.get c).carryCount + 1 }).raiseFlag .fuel .carry
        | (s, false) => s.handFault .release .dryCylinder (some c) none := by
      rw [hstep h, carryOver, show (s.table.get c).carry = _ from hsome]
      exact if_pos hcount
    refine ⟨fun hempty => ?_, fun reason blocking hplan => ?_, fun marks d bc hfree hplan => ?_⟩
    · rw [hplaces, placeCarried, hempty]
      rfl
    · have hrefused : s.placeCarried c x = (s, false) := by
        rw [placeCarried]
        split
        · rfl
        · dsimp only
          rw [show s.planFit _ = _ from hplan]
      rw [hplaces, hrefused]
    · intro u m
      obtain ⟨freed, hfreed⟩ := displaceMarked_free s marks
      obtain ⟨slot, free, hhead⟩ := List.exists_cons_of_ne_nil (show m.pool.free ≠ [] from fun h => by
        rw [show m.pool.free = _ from hfreed] at h
        exact hfree (List.append_eq_nil_iff.mp h).2)
      let crossed := s.limits.reserve < m.pool.free.length ∧ free.length ≤ s.limits.reserve
      let popped := if crossed then (m.raiseFlag .fuel .poolLow).raiseFlag .thermal .poolLow else m
      let r : Record :=
        { slot := slot, owner := .fuel, tag := 0, carried := true, cylinder := c, kind := .main, offset := x.offset,
          start := modCycle ((e.tdc : Int) + x.offset), duration := d, priority := s.limits.fuelCeiling, repeats := 1,
          report := true, check := false, phase := .pending }
      let filled := popped.setPool (Pool.insert { m.pool with free := free } { r with check := r.parity })
      let flagged := if bc then filled.raiseFlag .fuel .clamp else filled
      have hplaced : s.placeCarried c x = (flagged, true) := placeCarried_accepted hfree hplan hhead
      have hpopped : popped.table = s.table ∧ popped.faults = s.faults ∧ ∀ l, (popped.links.get l).log = (m.links.get l).log := by
        unfold popped
        split
        · exact ⟨displaceMarked_table s marks, displaceMarked_faults s marks, fun l => by cases l <;> rfl⟩
        · exact ⟨displaceMarked_table s marks, displaceMarked_faults s marks, fun _ => rfl⟩
      have hflagged : flagged.table = s.table ∧ flagged.faults = s.faults ∧ ∀ l, (flagged.links.get l).log = (m.links.get l).log := by
        unfold flagged
        split
        · exact ⟨hpopped.1, hpopped.2.1, fun l => by rw [← hpopped.2.2]; cases l <;> rfl⟩
        · exact hpopped
      obtain ⟨htable, hfaults, hlog⟩ := hflagged
      have hu : u = (flagged.setCylinder c { e with carryCount := e.carryCount + 1 }).raiseFlag .fuel .carry := by
        rw [show u = _ from hplaces, hplaced]
        dsimp only
        rw [htable]
      refine ⟨?_, ?_, fun hbc => ?_, ?_, fun l => ?_, slot, free, hhead, hu⟩
      · rw [hu]
        show flagged.table.set c _ = _
        rw [htable]
      · rw [hu]
        exact raiseFlag_bit _ .fuel .carry
      · have hclamp : (flagged.links.get .fuel).sticky.getLsbD 6 = true := by
          rw [show flagged = filled.raiseFlag .fuel .clamp from if_pos hbc]
          exact raiseFlag_bit _ .fuel .clamp
        rw [hu, raiseFlag_links, PerLink.get_set, if_pos rfl]
        show (((flagged.links.get .fuel).sticky ||| Flag.carry.mask).getLsbD 6) = true
        rw [BitVec.getLsbD_or, hclamp, Bool.true_or]
      · rw [hu]
        exact hfaults
      · rw [hu, ← hlog]
        cases l <;> rfl

end Sys2Proof.Machine
end

section
/-! PROOF. The crank edge, outside SYNCED (O44) and in SYNCED (O45). -/

namespace Sys2Proof.Machine

open State

/-! ### The turns of an advance (R15, R140) -/

/-- Every block acts once in the order of the turns that name each block once. -/
theorem foldl_edgeTurn_acts (adv : Advance) {ks left : List Block} (h : ks.Perm left) (s : State) :
    (ks.map EdgeTurn.acts).foldl (edgeTurn adv) (s, left) = (ks.foldl (fun s k => s.blockStep adv k) s, []) := by
  induction ks generalizing s left with
  | nil => rw [List.nil_perm.mp h]; rfl
  | cons k ks ih =>
    have hk : k ∈ left := h.mem_iff.mp List.mem_cons_self
    have hrest : ks.Perm (left.erase k) := by
      have herase := h.erase k
      rwa [List.erase_cons_head] at herase
    rw [List.map_cons, List.foldl_cons, edgeTurn_acts adv s left k hk, ih hrest]
    rfl

/-- Turns for blocks that have all taken the advance change nothing. -/
theorem foldl_edgeTurn_done (adv : Advance) (ks : List Block) (s : State) :
    (ks.map EdgeTurn.acts).foldl (edgeTurn adv) (s, []) = (s, []) := by
  induction ks with
  | nil => rfl
  | cons k ks ih => rw [List.map_cons, List.foldl_cons, edgeTurn_done adv s [] k List.not_mem_nil, ih]

theorem takeAdvance_perm {ks : List Block} (h : ks.Perm advanceBlocks) (s : State) (adv : Advance) :
    s.takeAdvance (ks.map EdgeTurn.acts) adv = (ks.foldl (fun s k => s.blockStep adv k) s).takeRaised := by
  rw [takeAdvance, List.foldl_append, foldl_edgeTurn_acts adv h, foldl_edgeTurn_done]

/-! ### An advance without angles (R15) -/

theorem blockStep_angleless {adv : Advance} (h : adv.angles = none) (s : State) (x : Block) :
    s.blockStep adv x = if x = .limits then s.overspeedCheck adv else s := by
  cases x <;> simp [blockStep, h]

/-- At most one fault waits: taken in its block's turn or with the rest, it leaves the same. -/
theorem takeRaisedOf_single {s : State} (h : s.faults.raised.length ≤ 1) (x : Block) :
    s.takeRaisedOf x = s ∨ s.takeRaisedOf x = s.takeRaised := by
  unfold takeRaisedOf takeRaised
  cases hr : s.faults.raised with
  | nil => exact .inl rfl
  | cons y rest =>
    rw [hr, List.length_cons] at h
    obtain rfl : rest = [] := List.length_eq_zero_iff.mp (by omega)
    cases hb : y.block == x with
    | false => exact .inl (by simp [hb])
    | true => exact .inr (by simp [hb])

theorem takeRaisedOf_of_none {s : State} (h : s.faults.raised = []) (x : Block) : s.takeRaisedOf x = s := by
  rw [takeRaisedOf, h]
  rfl

/-- A state, or what is left when its faults are taken. -/
def State.OrTaken (s u : State) : Prop := u = s ∨ u = s.takeRaised

theorem State.OrTaken.turn {s u : State} (h : s.OrTaken u) (hone : s.faults.raised.length ≤ 1) (x : Block) :
    s.OrTaken (u.takeRaisedOf x) := by
  obtain rfl | rfl := h
  · exact takeRaisedOf_single hone x
  · rw [takeRaisedOf_of_none (takeRaised_raised s)]
    exact .inr rfl

theorem State.OrTaken.takeRaised {s u : State} (h : s.OrTaken u) : u.takeRaised = s.takeRaised := by
  obtain rfl | rfl := h
  · rfl
  · exact takeRaised_of_none _ (takeRaised_raised s)

/-- An advance without angles that the overspeed check passes over leaves only the faults of the tooth to take. -/
theorem takeAdvance_unchecked {s : State} {adv : Advance} (hangles : adv.angles = none) (hcls : ∀ x, State.overspeedCheck x adv = x)
    (hone : s.faults.raised.length ≤ 1) (turns : List EdgeTurn) : s.takeAdvance turns adv = s.takeRaised := by
  have hkept (turns : List EdgeTurn) : ∀ w : State × List Block, s.OrTaken w.1 → s.OrTaken (turns.foldl (edgeTurn adv) w).1 := by
    induction turns with
    | nil => exact fun _ h => h
    | cons y turns ih =>
      refine fun w h => ih _ ?_
      cases y with
      | fault x => exact h.turn hone x
      | acts x =>
        unfold edgeTurn
        dsimp only
        split
        · rw [blockStep_angleless hangles, hcls, ite_self]
          exact h
        · exact h
  exact (hkept _ _ (.inl rfl)).takeRaised

/-- What the turns have made of a state without faults, before or after the overspeed check. -/
def State.CheckedOnce (s : State) (adv : Advance) (w : State × List Block) : Prop :=
  w.2.Nodup ∧ ((.limits ∈ w.2 ∧ w.1 = s) ∨ (.limits ∉ w.2 ∧ (s.overspeedCheck adv).OrTaken w.1))

theorem State.CheckedOnce.turn {s : State} {adv : Advance} {w : State × List Block} (h : s.CheckedOnce adv w)
    (hangles : adv.angles = none) (hnone : s.faults.raised = []) (hone : (s.overspeedCheck adv).faults.raised.length ≤ 1)
    (y : EdgeTurn) : s.CheckedOnce adv (edgeTurn adv w y) ∧ (y = .acts .limits → .limits ∉ (edgeTurn adv w y).2) := by
  obtain ⟨hnodup, hcases⟩ := h
  cases y with
  | fault x =>
    refine ⟨⟨hnodup, hcases.imp (fun ⟨hin, hs⟩ => ⟨hin, ?_⟩) fun ⟨hout, hs⟩ => ⟨hout, hs.turn hone x⟩⟩, fun h => by cases h⟩
    show w.1.takeRaisedOf x = s
    rw [hs, takeRaisedOf_of_none hnone]
  | acts x =>
    unfold edgeTurn
    dsimp only
    by_cases hx : x ∈ w.2
    · rw [if_pos hx, blockStep_angleless hangles]
      refine ⟨⟨hnodup.erase x, ?_⟩, fun h => ?_⟩
      · by_cases hlimits : x = .limits
        · subst hlimits
          refine .inr ⟨fun h => (hnodup.mem_erase_iff.mp h).1 rfl, ?_⟩
          obtain ⟨-, hs⟩ := hcases.resolve_right fun h => h.1 hx
          rw [if_pos rfl, hs]
          exact .inl rfl
        · have hmem : Block.limits ∈ w.2.erase x ↔ Block.limits ∈ w.2 := List.mem_erase_of_ne (Ne.symm hlimits)
          rw [if_neg hlimits]
          dsimp only
          rw [hmem]
          exact hcases
      · obtain rfl : x = .limits := by injection h
        exact fun h => (hnodup.mem_erase_iff.mp h).1 rfl
    · rw [if_neg hx]
      refine ⟨⟨hnodup, hcases⟩, fun h => ?_⟩
      obtain rfl : x = .limits := by injection h
      exact hx

theorem State.CheckedOnce.turns {s : State} {adv : Advance} (hangles : adv.angles = none) (hnone : s.faults.raised = [])
    (hone : (s.overspeedCheck adv).faults.raised.length ≤ 1) (turns : List EdgeTurn) {w : State × List Block}
    (h : s.CheckedOnce adv w) : s.CheckedOnce adv (turns.foldl (edgeTurn adv) w) := by
  induction turns generalizing w with
  | nil => exact h
  | cons y turns ih => exact ih (h.turn hangles hnone hone y).1

/-- An advance without angles is the overspeed check, and the fault that it raised is taken (R15, R128). -/
theorem takeAdvance_angleless {s : State} {adv : Advance} (hangles : adv.angles = none) (hnone : s.faults.raised = [])
    (hone : (s.overspeedCheck adv).faults.raised.length ≤ 1) (turns : List EdgeTurn) :
    s.takeAdvance turns adv = (s.overspeedCheck adv).takeRaised := by
  have hstart : s.CheckedOnce adv (s, advanceBlocks) := ⟨show advanceBlocks.Nodup by decide, .inl ⟨show Block.limits ∈ advanceBlocks by decide, rfl⟩⟩
  have hblocks : advanceBlocks.map EdgeTurn.acts = [.acts .release] ++ [.acts .limits]
      ++ [.acts (.driver .bankA), .acts (.driver .bankB), .acts .marks] := rfl
  rw [takeAdvance, hblocks, ← List.append_assoc, ← List.append_assoc, List.foldl_append, List.foldl_append]
  generalize hw : List.foldl (edgeTurn adv) (s, advanceBlocks) (turns ++ [.acts .release]) = w
  have hbefore : s.CheckedOnce adv w := hw ▸ hstart.turns hangles hnone hone _
  obtain ⟨hchecked, hout⟩ := hbefore.turn hangles hnone hone (.acts .limits)
  have hdone (y : EdgeTurn) (w : State × List Block) (h : Block.limits ∉ w.2) : Block.limits ∉ (edgeTurn adv w y).2 := by
    cases y with
    | fault x => exact h
    | acts x =>
      unfold edgeTurn
      dsimp only
      split
      · exact fun hmem => h (List.mem_of_mem_erase hmem)
      · exact h
  have hlast := hchecked.turns hangles hnone hone [.acts (.driver .bankA), .acts (.driver .bankB), .acts .marks]
  have hgone := hdone (.acts .marks) _ (hdone (.acts (.driver .bankB)) _ (hdone (.acts (.driver .bankA)) _ (hout rfl)))
  exact ((hlast.2.resolve_left fun h => hgone h.1).2).takeRaised

/-- The overspeed check of a normal interval (R128). -/
theorem overspeedCheck_normal {s : State} {adv : Advance} {p : Nat} (hcls : adv.cls = .normal) (hp : adv.period = some p) :
    s.overspeedCheck adv
      = if s.limits.overspeedActive = false ∧ s.limits.overspeed < 1000000 / p then s.overspeedFound
        else if s.limits.overspeedActive = true ∧ 1000000 / p + 100 ≤ s.limits.overspeed then
          s.setLimits { s.limits with overspeedActive := false }
        else s := by
  rw [overspeedCheck, hcls, hp]
  simp only [Bool.and_eq_true, Bool.not_eq_true', decide_eq_true_eq]
  rfl

theorem overspeedFound_raised (s : State) : s.overspeedFound.faults.raised.length = s.faults.raised.length + 1 := by
  simp [overspeedFound, handFault]

theorem overspeedCheck_raised {s : State} (hnone : s.faults.raised = []) (adv : Advance) :
    (s.overspeedCheck adv).faults.raised.length ≤ 1 := by
  unfold overspeedCheck
  split
  · split
    · exact (overspeedFound_raised s).le.trans (by rw [hnone]; rfl)
    · split
      · show s.faults.raised.length ≤ 1
        rw [hnone]
        exact Nat.zero_le _
      · rw [hnone]
        exact Nat.zero_le _
  · rw [hnone]
    exact Nat.zero_le _

/-- A normal tooth outside SYNCED: the overspeed check, and the fault it raised is taken (R15, R128). -/
theorem takeAdvance_checked {s : State} {adv : Advance} {p : Nat} (hangles : adv.angles = none) (hcls : adv.cls = .normal)
    (hp : adv.period = some p) (hnone : s.faults.raised = []) (turns : List EdgeTurn) :
    s.takeAdvance turns adv
      = if s.limits.overspeedActive = false ∧ s.limits.overspeed < 1000000 / p then s.overspeedFound.takeRaised
        else if s.limits.overspeedActive = true ∧ 1000000 / p + 100 ≤ s.limits.overspeed then
          s.setLimits { s.limits with overspeedActive := false }
        else s := by
  rw [takeAdvance_angleless hangles hnone (overspeedCheck_raised hnone adv), overspeedCheck_normal hcls hp]
  split
  · rfl
  · split
    · exact takeRaised_of_none _ hnone
    · exact takeRaised_of_none _ hnone

/-- A tooth without faults that the overspeed check passes over. -/
theorem takeAdvance_quiet {s : State} {adv : Advance} (hangles : adv.angles = none) (hcls : ∀ x, State.overspeedCheck x adv = x)
    (hnone : s.faults.raised = []) (turns : List EdgeTurn) : s.takeAdvance turns adv = s := by
  rw [takeAdvance_unchecked hangles hcls (by rw [hnone]; exact Nat.zero_le _), takeRaised_of_none s hnone]

/-- The advance of a tooth outside SYNCED, taken after a normal interval. -/
theorem takeAdvance_of_normal {u : State} {p : Nat} (hp : u.clock.period = some p) (hnone : u.faults.raised = []) (o : List EdgeTurn) :
    u.takeAdvance o (u.advanceOf .normal none)
      = if u.limits.overspeedActive = false ∧ u.limits.overspeed < 1000000 / p then u.overspeedFound.takeRaised
        else if u.limits.overspeedActive = true ∧ 1000000 / p + 100 ≤ u.limits.overspeed then
          u.setLimits { u.limits with overspeedActive := false }
        else u :=
  takeAdvance_checked (adv := u.advanceOf .normal none) rfl rfl hp hnone o

/-- The advance of a tooth outside SYNCED, taken after a gap-like interval. -/
theorem takeAdvance_of_gap {u : State} (hnone : u.faults.raised = []) (o : List EdgeTurn) :
    u.takeAdvance o (u.advanceOf .gapLike none) = u :=
  takeAdvance_quiet (adv := u.advanceOf .gapLike none) rfl (fun _ => rfl) hnone o

/-! ### The edge that is taken (R1, R2) -/

/-- The clock at an accepted tooth of a time (R1, R2). -/
def State.acceptedClock (s : State) (t : Time) (cls : IntervalClass) (interval : Nat) : Clock :=
  { s.clock with
    lastTooth := t
    stall := some (t + BitVec.ofNat 32 (s.engine.config.stallTimeout * 1000))
    period := if cls = .normal then some interval else s.clock.period }

theorem acceptTooth_eq (s : State) (cls : IntervalClass) (interval : Nat) :
    s.acceptTooth cls interval = s.setClock (s.acceptedClock s.timeBase cls interval) := rfl

/-- An edge that the noise filter lets through, outside STOPPED: the rule of the sync state, then the advance. -/
theorem crankEdge_kept {s : State} {t : Time} {cls : IntervalClass} {interval : Nat} {u : State} {angles : Option (Nat × Nat)}
    (hv : s.engine.valid = true) (hsync : s.clock.sync ≠ .stopped) (ht : s.timeBase = t)
    (hi : interval = (t - s.clock.lastTooth).toNat) (hkept : discarded s.clock.period interval = false)
    (hcls : classify s.clock.period interval = cls)
    (htooth : (s.setClock (s.acceptedClock t cls interval)).takeTooth cls = (u, angles)) (o : List EdgeTurn) :
    s.crankEdge o = u.takeAdvance o (u.advanceOf cls angles) := by
  have hpassed : passedBy s.timeBase s.clock.lastTooth = interval := by rw [hi, ht]; rfl
  rw [crankEdge, hv, if_neg (by decide), if_neg hsync]
  dsimp only
  rw [hpassed, hkept, hcls, acceptTooth_eq, ht, htooth]
  rfl

theorem crankEdge_discarded {s : State} {t : Time} {interval : Nat} (hsync : s.clock.sync ≠ .stopped) (ht : s.timeBase = t)
    (hi : interval = (t - s.clock.lastTooth).toNat) (hfiltered : discarded s.clock.period interval = true) (o : List EdgeTurn) :
    s.crankEdge o = s := by
  have hpassed : passedBy s.timeBase s.clock.lastTooth = interval := by rw [hi, ht]; rfl
  cases hv : s.engine.valid with
  | false =>
    rw [crankEdge, hv]
    rfl
  | true =>
    rw [crankEdge, hv, if_neg (by decide), if_neg hsync]
    dsimp only
    rw [hpassed, hfiltered]
    rfl

theorem classify_normal {p i : Nat} (h : i < 2 * p) : classify (some p) i = .normal := if_neg (Nat.not_le.mpr h)

theorem classify_gap {p i : Nat} (h : 2 * p ≤ i) : classify (some p) i = .gapLike := if_pos h

theorem discarded_false {p i : Nat} (h : p ≤ 4 * i) : discarded (some p) i = false := decide_eq_false (Nat.not_lt.mpr h)

theorem correctTooth_iff (expected : Nat) (cls : IntervalClass) : correctTooth expected cls = true ↔ (expected = 0 ↔ cls = .gapLike) := by
  rw [correctTooth, beq_iff_eq, Bool.eq_iff_iff, beq_iff_eq, beq_iff_eq]

theorem takeTooth_of_hunt {s : State} (h : s.clock.sync = .hunt) (cls : IntervalClass) :
    s.takeTooth cls = (s.huntTooth cls, none) := by rw [takeTooth, h]

theorem takeTooth_of_gapFound {s : State} (h : s.clock.sync = .gapFound) (cls : IntervalClass) :
    s.takeTooth cls = (s.gapFoundTooth cls, none) := by rw [takeTooth, h]

theorem takeTooth_of_synced {s : State} (h : s.clock.sync = .synced) (cls : IntervalClass) :
    s.takeTooth cls = s.syncedTooth cls := by rw [takeTooth, h]

/-- Settles O44. -/
theorem crankEdgeUnsynced : Obligations.CrankEdgeUnsynced := by
  unfold Obligations.CrankEdgeUnsynced
  intro t o s a i next taken checked lost runs
  have ht : a.timeBase = t := arrive_timeBase s t
  have hruns {x : State} (h : a.crankEdge o = x) : runs x := congrArg _ h
  refine ⟨fun hv => hruns ?_, fun hv hnone => ⟨fun hsync => hruns ?_, fun hsync hp hi => hruns ?_, fun hsync hp hi => hruns ?_,
    fun p hp => ⟨fun hsync hi => hruns ?_, fun hsync hi hn => hruns ?_, fun hsync hi hg hseen => hruns ?_,
      fun hsync hi hg hseen => hruns ?_, fun hsync hi hn hnext => hruns ?_, fun hsync hi hg hnext => hruns ?_,
      fun hsync hi hn hnext => hruns ?_, fun hsync hi hg hnext => hruns ?_⟩⟩⟩
  · rw [crankEdge, hv]
    rfl
  · have hfirst : a.firstTooth = (a.setClock { taken with sync := .hunt, period := none, normalSeen := false }).raiseSync := by
      rw [firstTooth, acceptTooth_eq, ht]
      rfl
    rw [crankEdge, hv, if_neg (by decide), if_pos hsync, hfirst]
    exact takeAdvance_quiet (adv := advanceOf _ .none none) rfl (fun _ => rfl) (by exact hnone) o
  · exact crankEdge_discarded hsync ht rfl (by rw [hp]; exact beq_iff_eq.mpr hi) o
  · have htooth : (a.setClock (a.acceptedClock t .normal i)).takeTooth .normal
        = (a.setClock { taken with period := some i, normalSeen := true }, none) := takeTooth_of_hunt (by exact hsync) .normal
    have hkept := crankEdge_kept hv (by simp [hsync]) ht rfl (by rw [hp]; exact beq_eq_false_iff_ne.mpr hi) (by rw [hp]; rfl) htooth o
    exact hkept.trans (takeAdvance_of_normal (p := i) rfl (by exact hnone) o)
  · exact crankEdge_discarded hsync ht rfl (by rw [hp]; exact decide_eq_true hi) o
  · have htooth : (a.setClock (a.acceptedClock t .normal i)).takeTooth .normal
        = (a.setClock { taken with period := some i, normalSeen := true }, none) := takeTooth_of_hunt (by exact hsync) .normal
    have hkept := crankEdge_kept hv (by simp [hsync]) ht rfl (by rw [hp]; exact discarded_false hi)
      (by rw [hp]; exact classify_normal hn) htooth o
    exact hkept.trans (takeAdvance_of_normal (p := i) rfl (by exact hnone) o)
  · have htooth : (a.setClock (a.acceptedClock t .gapLike i)).takeTooth .gapLike = (a.setClock taken, none) := by
      rw [takeTooth_of_hunt (by exact hsync), huntTooth, if_pos rfl]
      exact congrArg (fun u => (u, none)) (if_neg (by simp [acceptedClock, hseen]))
    have hkept := crankEdge_kept hv (by simp [hsync]) ht rfl (by rw [hp]; exact discarded_false hi)
      (by rw [hp]; exact classify_gap hg) htooth o
    exact hkept.trans (takeAdvance_of_gap (by exact hnone) o)
  · have htooth : (a.setClock (a.acceptedClock t .gapLike i)).takeTooth .gapLike
        = ((a.setClock { taken with sync := .gapFound, tooth := 0, lastAngle := 0, normalSeen := false }).raiseSync, none) := by
      rw [takeTooth_of_hunt (by exact hsync), huntTooth, if_pos rfl]
      exact congrArg (fun u => (u, none)) (if_pos (by exact hseen))
    have hkept := crankEdge_kept hv (by simp [hsync]) ht rfl (by rw [hp]; exact discarded_false hi)
      (by rw [hp]; exact classify_gap hg) htooth o
    exact hkept.trans (takeAdvance_of_gap (by exact hnone) o)
  · have htooth : (a.setClock (a.acceptedClock t .normal i)).takeTooth .normal
        = (a.setClock { taken with period := some i, tooth := next, lastAngle := 96 * next }, none) := by
      rw [takeTooth_of_gapFound (by exact hsync), gapFoundTooth]
      exact congrArg (fun u => (u, none)) (if_pos ((correctTooth_iff _ _).mpr ⟨fun h => (hnext h).elim, fun h => by cases h⟩))
    have hkept := crankEdge_kept hv (by simp [hsync]) ht rfl (by rw [hp]; exact discarded_false hi)
      (by rw [hp]; exact classify_normal hn) htooth o
    exact hkept.trans (takeAdvance_of_normal (p := i) rfl (by exact hnone) o)
  · have htooth : (a.setClock (a.acceptedClock t .gapLike i)).takeTooth .gapLike
        = (a.setClock { taken with tooth := 0, lastAngle := 0 }, none) := by
      rw [takeTooth_of_gapFound (by exact hsync), gapFoundTooth]
      have hnext' : expectedTooth (a.setClock (a.acceptedClock t .gapLike i)).clock.tooth = 0 := hnext
      rw [hnext']
      rfl
    have hkept := crankEdge_kept hv (by simp [hsync]) ht rfl (by rw [hp]; exact discarded_false hi)
      (by rw [hp]; exact classify_gap hg) htooth o
    exact hkept.trans (takeAdvance_of_gap (by exact hnone) o)
  · have htooth : (a.setClock (a.acceptedClock t .normal i)).takeTooth .normal = (lost { taken with period := some i }, none) := by
      rw [takeTooth_of_gapFound (by exact hsync), gapFoundTooth]
      exact congrArg (fun u => (u, none)) (if_neg fun h => by simpa using ((correctTooth_iff _ _).mp h).mp hnext)
    exact crankEdge_kept hv (by simp [hsync]) ht rfl (by rw [hp]; exact discarded_false hi)
      (by rw [hp]; exact classify_normal hn) htooth o
  · have htooth : (a.setClock (a.acceptedClock t .gapLike i)).takeTooth .gapLike = (lost taken, none) := by
      rw [takeTooth_of_gapFound (by exact hsync), gapFoundTooth]
      exact congrArg (fun u => (u, none)) (if_neg fun h => hnext (((correctTooth_iff _ _).mp h).mpr rfl))
    have hkept := crankEdge_kept hv (by simp [hsync]) ht rfl (by rw [hp]; exact discarded_false hi)
      (by rw [hp]; exact classify_gap hg) htooth o
    have hone : (lost taken).faults.raised.length ≤ 1 := by
      simp [lost, handFault, raiseSync, hnone]
    exact hkept.trans (takeAdvance_unchecked (adv := (lost taken).advanceOf .gapLike none) rfl (fun _ => rfl) hone o)

/-! ### The edge in SYNCED -/

theorem advanceOf_eq {u : State} {x : SyncState} {t : Time} {q : Nat} {cycle : Word16} (hs : u.clock.sync = x)
    (hl : u.clock.lastTooth = t) (hq : u.clock.period = some q) (hc : u.clock.cycle = cycle) (cls : IntervalClass)
    (angles : Option (Nat × Nat)) :
    u.advanceOf cls angles = { state := x, time := t, cls := cls, period := some q, angles := angles, cycle := cycle } := by
  simp only [advanceOf, hs, hl, hq, hc]

/-- The clock at the reference tooth of a cycle (R6, R14). -/
def State.referenceClock (s : State) (t : Time) : Clock :=
  { s.acceptedClock t .gapLike 0 with tooth := 0, revolution := 0, lastAngle := 0, cycle := s.clock.cycle + 1 }

/-- SYNCED lost at a tooth out of place (R5, R9). -/
def State.lostSync (s : State) (c : Clock) : State :=
  ((((s.setClock c).handFault .clock .syncError none none).setClock { c with sync := .hunt, normalSeen := false }).raiseSync).leavingSynced

section

variable {s : State} {t : Time} {p i : Nat} (hv : s.engine.valid = true) (hsync : s.clock.sync = .synced) (ht : s.timeBase = t)
  (hinterval : i = (t - s.clock.lastTooth).toNat) (hp : s.clock.period = some p) (hkept : p ≤ 4 * i)

include hv hsync ht hinterval hp hkept

/-- An edge in SYNCED that the noise filter lets through. -/
theorem syncedEdge {cls : IntervalClass} {u : State} {angles : Option (Nat × Nat)} (hcls : classify (some p) i = cls)
    (htooth : (s.setClock (s.acceptedClock t cls i)).syncedTooth cls = (u, angles)) (o : List EdgeTurn) :
    s.crankEdge o = u.takeAdvance o (u.advanceOf cls angles) :=
  crankEdge_kept hv (by simp [hsync]) ht hinterval (by rw [hp]; exact discarded_false hkept) (by rw [hp]; exact hcls)
    ((takeTooth_of_synced (by exact hsync) cls).trans htooth) o

/-- A correct tooth after a normal interval (R6). -/
theorem syncedEdge_tooth (hn : i < 2 * p) (hnext : expectedTooth s.clock.tooth ≠ 0) (o : List EdgeTurn) :
    let new := toothAngle (expectedTooth s.clock.tooth) s.clock.revolution
    s.crankEdge o
      = (s.setClock { s.acceptedClock t .normal i with tooth := expectedTooth s.clock.tooth, lastAngle := new }).takeAdvance o
        { state := .synced, time := t, cls := .normal, period := some i, angles := some (s.clock.lastAngle, new),
          cycle := s.clock.cycle } := by
  intro new
  have hkeep : (s.setClock (s.acceptedClock t .normal i)).nextRevolution = s.clock.revolution := if_neg hnext
  have htooth : (s.setClock (s.acceptedClock t .normal i)).syncedTooth .normal
      = (s.setClock { s.acceptedClock t .normal i with tooth := expectedTooth s.clock.tooth, lastAngle := new },
        some (s.clock.lastAngle, new)) := by
    rw [syncedTooth_of_tooth (s := s.setClock (s.acceptedClock t .normal i)) ((correctTooth_iff _ _).mpr ⟨fun h => (hnext h).elim, fun h => by cases h⟩) fun h => hnext h.1,
      toothClock, hkeep]
    rfl
  rw [syncedEdge hv hsync ht hinterval hp hkept (classify_normal hn) htooth o]
  exact congrArg _ (advanceOf_eq (by exact hsync) rfl rfl rfl .normal _)

/-- The gap in the middle of a cycle (R6). -/
theorem syncedEdge_gap (hg : 2 * p ≤ i) (hnext : expectedTooth s.clock.tooth = 0) (hrev : s.clock.revolution = 0)
    (o : List EdgeTurn) :
    s.crankEdge o
      = (s.setClock { s.acceptedClock t .gapLike i with tooth := 0, revolution := 1, lastAngle := 5760 }).takeAdvance o
        { state := .synced, time := t, cls := .gapLike, period := some p, angles := some (s.clock.lastAngle, 5760),
          cycle := s.clock.cycle } := by
  have hturned : (s.setClock (s.acceptedClock t .gapLike i)).nextRevolution = 1 := by
    refine (if_pos hnext).trans ?_
    show s.clock.revolution + 1 = 1
    rw [hrev]
    rfl
  have hexpected : expectedTooth (s.setClock (s.acceptedClock t .gapLike i)).clock.tooth = 0 := hnext
  have htooth : (s.setClock (s.acceptedClock t .gapLike i)).syncedTooth .gapLike
      = (s.setClock { s.acceptedClock t .gapLike i with tooth := 0, revolution := 1, lastAngle := 5760 },
        some (s.clock.lastAngle, 5760)) := by
    rw [syncedTooth_of_tooth (s := s.setClock (s.acceptedClock t .gapLike i)) ((correctTooth_iff _ _).mpr ⟨fun _ => rfl, fun _ => hnext⟩) (by rw [hturned]; simp), toothClock, hturned,
      hexpected]
    rfl
  rw [syncedEdge hv hsync ht hinterval hp hkept (classify_gap hg) htooth o]
  exact congrArg _ (advanceOf_eq (by exact hsync) rfl (by exact hp) rfl .gapLike _)

/-- A tooth out of place (R5, R9). -/
theorem syncedEdge_lost {cls : IntervalClass} {q : Nat} (hcls : classify (some p) i = cls)
    (hwrong : ¬ (expectedTooth s.clock.tooth = 0 ↔ cls = .gapLike)) (hq : (s.acceptedClock t cls i).period = some q)
    (o : List EdgeTurn) :
    s.crankEdge o = (s.lostSync (s.acceptedClock t cls i)).takeAdvance o
      { state := .hunt, time := t, cls := cls, period := some q, angles := none, cycle := s.clock.cycle } := by
  have htooth : (s.setClock (s.acceptedClock t cls i)).syncedTooth cls = (s.lostSync (s.acceptedClock t cls i), none) := by
    rw [syncedTooth_of_loss (s := s.setClock (s.acceptedClock t cls i)) (mt (correctTooth_iff _ _).mp hwrong)]
    rfl
  have hclock : (s.lostSync (s.acceptedClock t cls i)).clock = { s.acceptedClock t cls i with sync := .hunt, normalSeen := false } := by
    rw [lostSync, leavingSynced_clock]
    rfl
  rw [syncedEdge hv hsync ht hinterval hp hkept hcls htooth o]
  exact congrArg _ (advanceOf_eq (congrArg Clock.sync hclock) (congrArg Clock.lastTooth hclock) ((congrArg Clock.period hclock).trans hq)
    (congrArg Clock.cycle hclock) cls none)

/-- The reference tooth of a cycle, with what the close of the cam history makes of it (R14). -/
theorem referenceTooth_eq (hg : 2 * p ≤ i) (hnext : expectedTooth s.clock.tooth = 0) (hrev : s.clock.revolution = 1)
    {u : State} {left : Bool} (hclose : (s.setClock (s.referenceClock t)).closeCycle = (u, left)) (o : List EdgeTurn) :
    s.crankEdge o = if left then u.leavingSynced.takeAdvance o (u.leavingSynced.advanceOf .gapLike none)
      else u.takeAdvance o (u.advanceOf .gapLike (some (s.clock.lastAngle, 0))) := by
  have hturned : (s.setClock (s.acceptedClock t .gapLike i)).nextRevolution = 0 := by
    refine (if_pos hnext).trans ?_
    show s.clock.revolution + 1 = 0
    rw [hrev]
    rfl
  have hexpected : expectedTooth (s.setClock (s.acceptedClock t .gapLike i)).clock.tooth = 0 := hnext
  have hclock : (s.setClock (s.acceptedClock t .gapLike i)).setClock
      { (s.setClock (s.acceptedClock t .gapLike i)).toothClock with
        cycle := (s.setClock (s.acceptedClock t .gapLike i)).clock.cycle + 1 } = s.setClock (s.referenceClock t) := by
    rw [toothClock, hturned, hexpected]
    rfl
  have hlast : (s.setClock (s.acceptedClock t .gapLike i)).toothClock.lastAngle = 0 := by
    rw [toothClock, hturned, hexpected]
    rfl
  have htooth : (s.setClock (s.acceptedClock t .gapLike i)).syncedTooth .gapLike
      = if left then (u.leavingSynced, none) else (u, some (s.clock.lastAngle, 0)) := by
    rw [syncedTooth_of_reference (s := s.setClock (s.acceptedClock t .gapLike i)) ((correctTooth_iff _ _).mpr ⟨fun _ => rfl, fun _ => hnext⟩) ⟨hnext, hturned⟩, hclock,
      hclose, hlast]
    cases left <;> rfl
  cases left with
  | true => exact syncedEdge hv hsync ht hinterval hp hkept (classify_gap hg) htooth o
  | false => exact syncedEdge hv hsync ht hinterval hp hkept (classify_gap hg) htooth o

/-- The reference tooth of a cycle that stays SYNCED (R14). -/
theorem syncedEdge_reference (hg : 2 * p ≤ i) (hnext : expectedTooth s.clock.tooth = 0) (hrev : s.clock.revolution = 1)
    {x : State} {cam : CamHistory} (hx : x.clock = s.referenceClock t)
    (hclose : (s.setClock (s.referenceClock t)).closeCycle = (x.setClock { x.clock with cam := cam }, false)) (o : List EdgeTurn) :
    s.crankEdge o = (x.setClock { x.clock with cam := cam }).takeAdvance o
      { state := .synced, time := t, cls := .gapLike, period := some p, angles := some (s.clock.lastAngle, 0),
        cycle := s.clock.cycle + 1 } := by
  rw [referenceTooth_eq hv hsync ht hinterval hp hkept hg hnext hrev hclose o, if_neg (by decide)]
  have hs : (x.setClock { x.clock with cam := cam }).clock.sync = .synced := (congrArg Clock.sync hx).trans hsync
  have hl : (x.setClock { x.clock with cam := cam }).clock.lastTooth = t := congrArg Clock.lastTooth hx
  have hq : (x.setClock { x.clock with cam := cam }).clock.period = some p := (congrArg Clock.period hx).trans hp
  have hc : (x.setClock { x.clock with cam := cam }).clock.cycle = s.clock.cycle + 1 := congrArg Clock.cycle hx
  exact congrArg _ (advanceOf_eq hs hl hq hc .gapLike _)

/-- The reference tooth of a second opposite cycle (R9, R14). -/
theorem syncedEdge_phaseError (hg : 2 * p ≤ i) (hnext : expectedTooth s.clock.tooth = 0) (hrev : s.clock.revolution = 1)
    {u : State} (hu : u.clock.sync = .gapFound ∧ u.clock.lastTooth = t ∧ u.clock.period = s.clock.period
      ∧ u.clock.cycle = s.clock.cycle + 1)
    (hclose : (s.setClock (s.referenceClock t)).closeCycle = (u, true)) (o : List EdgeTurn) :
    s.crankEdge o = u.leavingSynced.takeAdvance o
      { state := .gapFound, time := t, cls := .gapLike, period := some p, angles := none, cycle := s.clock.cycle + 1 } := by
  obtain ⟨hs, hl, hq, hc⟩ := hu
  rw [referenceTooth_eq hv hsync ht hinterval hp hkept hg hnext hrev hclose o, if_pos rfl]
  refine congrArg _ (advanceOf_eq ?_ ?_ ?_ ?_ .gapLike none)
  all_goals rw [leavingSynced_clock]
  · exact hs
  · exact hl
  · exact hq.trans hp
  · exact hc

end

/-- Settles O45. -/
theorem crankEdgeSynced : Obligations.CrankEdgeSynced := by
  unfold Obligations.CrankEdgeSynced
  intro units
  refine ⟨fun s turns adv hperiod => ?_, ?_⟩
  · intro check act turn
    have hcheck (x : State) : check x = x.overspeedCheck adv := by
      unfold check
      split
      · next p hcls hp => exact (overspeedCheck_normal hcls hp).symm
      · next hnot =>
        unfold overspeedCheck
        split
        · next p hcls hp => exact absurd hp (hnot p hcls)
        · rfl
    have hact (x : State) (k : Block) : act x k = x.blockStep adv k := by
      cases k with
      | limits => exact hcheck x
      | clock => rfl
      | _ =>
        unfold act blockStep
        cases ha : adv.angles with
        | none => rfl
        | some angles =>
          cases hp : adv.period with
          | none => exact absurd hp (hperiod (by simp [ha]))
          | some p => rfl
    have hturn : turn = edgeTurn adv := by
      funext w y
      cases y with
      | acts k =>
        unfold turn edgeTurn
        dsimp only
        rw [hact]
        exact if_congr List.contains_iff_mem rfl rfl
      | fault k =>
        unfold turn edgeTurn takeRaisedOf
        dsimp only
        cases w.1.faults.raised.find? fun y => y.block == k <;> rfl
    have hacts : act = fun x k => x.blockStep adv k := funext fun x => funext fun k => hact x k
    refine ⟨?_, fun ks h => ?_⟩
    · rw [hturn]
      rfl
    · rw [hacts]
      exact takeAdvance_perm h s adv
  · intro t o p s a i next taken runs advance noAngles empty reference closed lost hv hsync hp hi
    have ht : a.timeBase = t := arrive_timeBase s t
    have hruns {x : State} (h : a.crankEdge o = x) : runs x := congrArg _ h
    refine ⟨fun hn hnext => hruns ?_, fun hg hnext hrev => hruns ?_, fun hg hnext hrev => ?_, fun hn hnext => hruns ?_,
      fun hg hnext => hruns ?_⟩
    · exact syncedEdge_tooth hv hsync ht rfl hp hi hn hnext o
    · exact syncedEdge_gap hv hsync ht rfl hp hi hg hnext hrev o
    · have hstays {x : State} {cam : CamHistory} (hx : x.clock = a.referenceClock t)
          (h : (a.setClock (a.referenceClock t)).closeCycle = (x.setClock { x.clock with cam := cam }, false)) : runs (closed x cam) :=
        hruns (syncedEdge_reference hv hsync ht rfl hp hi hg hnext hrev hx h o)
      have hcam : (a.setClock (a.referenceClock t)).clock.cam = a.clock.cam := rfl
      refine ⟨fun hseen => hstays (by rfl) ?_, fun hseen hopposite hgood hverdict => hstays (by rfl) ?_,
        fun hseen hopposite hgood hverdict => ?_, fun hseen hgood => hstays (by rfl) ?_⟩
      · rw [closeCycle, hcam, hseen]
        rfl
      · rw [closeCycle, hcam, hseen, hopposite, hgood, hverdict]
        rfl
      · intro e
        refine hruns (syncedEdge_phaseError (u := (e.setClock { e.clock with sync := .gapFound, cam := empty }).raiseSync) hv hsync ht rfl hp hi hg hnext hrev ⟨rfl, rfl, rfl, rfl⟩ ?_ o)
        rw [closeCycle, hcam, hseen, hopposite, hgood, hverdict]
        rfl
      · have hkept : (a.clock.cam.opposite && !a.clock.cam.good) = false := by rcases hgood with h | h <;> simp [h]
        rw [closeCycle, hcam, hseen, hkept]
        rfl
    · exact syncedEdge_lost hv hsync ht rfl hp hi (classify_normal hn) (fun h => by cases h.mp hnext) rfl o
    · exact syncedEdge_lost hv hsync ht rfl hp hi (classify_gap hg) (fun h => hnext (h.mpr rfl)) hp o

end Sys2Proof.Machine
end

section
/-! PROOF. What every elementary change leaves in the cylinder lists: some of the records, in their order, with the placed fields they had. -/

namespace Sys2Proof.Machine

namespace Pool

/-- Every list of a pool holds some of the records of another pool's list, in their order, each as it was or changed in a way allowed. -/
def Follows (R : Record → Record → Prop) (p q : Pool) : Prop :=
  ∃ (keep : Record → Bool) (f : Record → Record),
    (∀ c, q.lists.get c = ((p.lists.get c).filter keep).map f) ∧ ∀ r ∈ p.records, R r (f r)

section follows
variable {R : Record → Record → Prop} {p q : Pool}

theorem follows_of_lists (h : q.lists = p.lists) (hR : ∀ r ∈ p.records, R r r) : Follows R p q :=
  ⟨fun _ => true, id, fun c => by rw [h, List.map_id, List.filter_true], hR⟩

theorem update_lists (p : Pool) (k : Slot) (f : Record → Record) (c : Cylinder) :
    (p.update k f).lists.get c = (p.lists.get c).map fun r => if r.slot = k then f r else r := by
  rw [update, Eight.get_map]

theorem unlink_lists (p : Pool) (k : Slot) (c : Cylinder) :
    (p.unlink k).lists.get c = (p.lists.get c).filter fun r => r.slot != k := by
  rw [unlink, Eight.get_map]

theorem follows_update {k : Slot} {f : Record → Record} (hR : ∀ r ∈ p.records, R r r)
    (hf : ∀ r ∈ p.records, r.slot = k → R r (f r)) : Follows R p (p.update k f) := by
  refine ⟨fun _ => true, fun r => if r.slot = k then f r else r, fun c => ?_, fun r hr => ?_⟩
  · rw [update_lists, List.filter_true]
  · dsimp only
    split
    · next hk => exact hf r hr hk
    · exact hR r hr

theorem follows_mapAll {f : Record → Record} (hf : ∀ r ∈ p.records, R r (f r)) : Follows R p (p.mapAll f) :=
  ⟨fun _ => true, f, fun c => by rw [mapAll, Eight.get_map, List.filter_true], hf⟩

/-- A slot freed leaves every record of another slot. -/
theorem freeRecord_lists (p : Pool) (k : Slot) (c : Cylinder) :
    (p.freeRecord k).lists.get c = (p.lists.get c).filter fun r => r.slot != k := by
  cases hf : p.find k with
  | some r => rw [freeRecord_of_find hf, push_lists, unlink_lists]
  | none =>
    have hsame : p.freeRecord k = p := by rw [freeRecord, hf]
    rw [hsame, eq_comm, List.filter_eq_self]
    intro r hr
    simpa using find_none.mp hf r ((mem_records p r).mpr ⟨c, hr⟩)

theorem quarantineRecord_lists (p : Pool) (k : Slot) (c : Cylinder) :
    (p.quarantineRecord k).lists.get c = (p.lists.get c).filter fun r => r.slot != k := by
  cases hf : p.find k with
  | some r => rw [quarantineRecord_of_find hf]; exact unlink_lists p k c
  | none =>
    have hsame : p.quarantineRecord k = p := by rw [quarantineRecord, hf]
    rw [hsame, eq_comm, List.filter_eq_self]
    intro r hr
    simpa using find_none.mp hf r ((mem_records p r).mpr ⟨c, hr⟩)

theorem follows_of_filter {keep : Record → Bool} (h : ∀ c, q.lists.get c = (p.lists.get c).filter keep)
    (hR : ∀ r ∈ p.records, R r r) : Follows R p q :=
  ⟨keep, id, fun c => by rw [h, List.map_id], hR⟩

/-- Every record comes from one of the same list. -/
theorem Follows.mem (h : Follows R p q) {c : Cylinder} {y : Record} (hy : y ∈ q.lists.get c) : ∃ x ∈ p.lists.get c, R x y := by
  obtain ⟨keep, f, hlists, hR⟩ := h
  rw [hlists] at hy
  obtain ⟨x, hx, rfl⟩ := List.mem_map.mp hy
  have hmem := (List.mem_filter.mp hx).1
  exact ⟨x, hmem, hR x ((mem_records p x).mpr ⟨c, hmem⟩)⟩

theorem Follows.mem_records (h : Follows R p q) {y : Record} (hy : y ∈ q.records) : ∃ x ∈ p.records, R x y := by
  obtain ⟨c, hc⟩ := (Pool.mem_records q y).mp hy
  obtain ⟨x, hx, hxy⟩ := h.mem hc
  exact ⟨x, (Pool.mem_records p x).mpr ⟨c, hx⟩, hxy⟩

theorem Follows.length_le (h : Follows R p q) (c : Cylinder) : (q.lists.get c).length ≤ (p.lists.get c).length := by
  obtain ⟨keep, f, hlists, -⟩ := h
  rw [hlists, List.length_map]
  exact List.length_filter_le _ _

/-- What stands between two records of a list still stands between them. -/
theorem Follows.pairwise (h : Follows R p q) {Q : Record → Record → Prop} (hQ : ∀ x x' y y', R x x' → R y y' → Q x y → Q x' y')
    {c : Cylinder} (hp : (p.lists.get c).Pairwise Q) : (q.lists.get c).Pairwise Q := by
  obtain ⟨keep, f, hlists, hR⟩ := h
  rw [hlists, List.pairwise_map]
  have hmem (x : Record) (hx : x ∈ (p.lists.get c).filter keep) : R x (f x) :=
    hR x ((Pool.mem_records p x).mpr ⟨c, (List.mem_filter.mp hx).1⟩)
  exact (hp.sublist List.filter_sublist).imp_of_mem fun hx hy hxy => hQ _ _ _ _ (hmem _ hx) (hmem _ hy) hxy

/-- A sum over a list does not grow when no record counts more than it did. -/
theorem Follows.sum_le (h : Follows R p q) {m : Record → Nat} {c : Cylinder} (hm : ∀ x ∈ p.lists.get c, ∀ y, R x y → m y ≤ m x) :
    ((q.lists.get c).map m).sum ≤ ((p.lists.get c).map m).sum := by
  obtain ⟨keep, f, hlists, hR⟩ := h
  rw [hlists, List.map_map]
  calc (((p.lists.get c).filter keep).map (m ∘ f)).sum
      ≤ (((p.lists.get c).filter keep).map m).sum := List.sum_le_sum fun x hx => by
        have hx := (List.mem_filter.mp hx).1
        exact hm x hx _ (hR x ((Pool.mem_records p x).mpr ⟨c, hx⟩))
    _ ≤ ((p.lists.get c).map m).sum := (List.filter_sublist.map m).sum_le_sum fun _ _ => Nat.zero_le _

theorem Follows.imp {R' : Record → Record → Prop} (h : Follows R p q) (hRR : ∀ r ∈ p.records, ∀ r', R r r' → R' r r') : Follows R' p q := by
  obtain ⟨keep, f, hlists, hR⟩ := h
  exact ⟨keep, f, hlists, fun r hr => hRR r hr _ (hR r hr)⟩

end follows

end Pool

theorem Record.Keeps.refl (r : Record) : r.Keeps r := ⟨rfl, rfl, rfl, rfl, rfl, rfl, rfl, rfl, le_rfl⟩

/-- How the phase of a record goes on in one elementary change: PENDING, or as it was, or RELEASED within the budget (R37, R46, R106). -/
inductive Record.Drives (s u : State) (r r' : Record) : Prop
  | pending (h : r'.phase = .pending)
  | same (hduration : r'.releasedDuration = r.releasedDuration) (hpending : r'.isPending = r.isPending)
  | released (hleast : 20 ≤ r.duration → 20 ≤ r'.releasedDuration) (hmost : r'.releasedDuration ≤ r.duration)
      (htotal : (u.table.get r.cylinder).released = (s.table.get r.cylinder).released + r'.releasedDuration)
      (hbudget : (u.table.get r.cylinder).released ≤ s.limits.budget)

/-- How a record goes on in one elementary change: its placed fields kept, and its phase from one allowed. -/
structure Record.GoesOn (s u : State) (r r' : Record) : Prop where
  keeps : r.Keeps r'
  drives : s.pool.partitioned → r.Drives s u r'

theorem Record.GoesOn.refl (s u : State) (r : Record) : r.GoesOn s u r := ⟨.refl r, fun _ => .same rfl rfl⟩

theorem Record.markFinal_duration (r : Record) : r.markFinal.releasedDuration = r.releasedDuration := by
  unfold Record.markFinal Record.releasedDuration
  cases hp : r.phase <;> simp [hp]

namespace State

/-- With every slot in one home, the record of a slot is the one found there. -/
theorem eq_of_find {s : State} (hp : s.pool.partitioned) {k : Slot} {r x : Record} (hfind : s.pool.find k = some r)
    (hx : x ∈ s.pool.records) (hk : x.slot = k) : x = r := by
  have h := Pool.find_of_mem (Pool.partitioned_slots_nodup hp) hx
  rw [hk, hfind] at h
  exact (Option.some.inj h).symm

/-- What the retirement of a record leaves in the lists. -/
theorem retire_follows (s u v : State) (k : Slot) (r : Record) :
    Pool.Follows (Record.GoesOn v u) s.pool (s.retire k r).1.pool := by
  have hrefl : ∀ x ∈ s.pool.records, x.GoesOn v u x := fun x _ => .refl v u x
  obtain ⟨-, heq⟩ | ⟨-, -, heq⟩ | ⟨-, -, heq⟩ := retire_cases s k r <;> rw [heq]
  · exact Pool.follows_of_filter (Pool.freeRecord_lists s.pool k) hrefl
  · exact Pool.follows_update hrefl fun x _ _ =>
      ⟨⟨rfl, rfl, rfl, rfl, rfl, rfl, rfl, rfl, Nat.sub_le _ _⟩, fun _ => .pending rfl⟩
  · exact Pool.follows_update hrefl fun x _ _ => ⟨⟨rfl, rfl, rfl, rfl, rfl, rfl, rfl, rfl, le_rfl⟩, fun _ => .pending rfl⟩

/-- What the budget leaves at a release (R37). -/
theorem budgetAtRelease_bounds {budget total n d : Nat} {shortened : Bool} (h : budgetAtRelease budget total n = some (d, shortened)) :
    (20 ≤ n → 20 ≤ d) ∧ d ≤ n ∧ total + d ≤ budget := by
  unfold budgetAtRelease Config.minDuration at h
  split at h
  · cases h
    exact ⟨id, le_rfl, by assumption⟩
  · split at h
    · cases h
      omega
    · cases h

theorem releaseRecord_follows {s : State} {r : Record} {d : Nat} {shortened : Bool} (new period : Nat)
    (hfind : s.pool.find r.slot = some r)
    (hbudget : budgetAtRelease s.limits.budget (s.table.get r.cylinder).released r.duration = some (d, shortened)) :
    Pool.Follows (Record.GoesOn s (s.releaseRecord r d shortened new period)) s.pool
      (s.releaseRecord r d shortened new period).pool := by
  obtain ⟨hleast, hmost, htotal⟩ := budgetAtRelease_bounds hbudget
  have hreleased : ((s.releaseRecord r d shortened new period).table.get r.cylinder).released
      = (s.table.get r.cylinder).released + d := by
    have htable : (s.releaseRecord r d shortened new period).table
        = s.table.set r.cylinder { s.table.get r.cylinder with released := (s.table.get r.cylinder).released + d } := rfl
    rw [htable, Eight.get_set, if_pos rfl]
  refine Pool.follows_update (fun x _ => .refl _ _ x) fun x hx hk =>
    ⟨⟨rfl, rfl, rfl, rfl, rfl, rfl, rfl, rfl, le_rfl⟩, fun hp => ?_⟩
  obtain rfl := eq_of_find hp hfind hx hk
  exact .released hleast hmost hreleased (hreleased.le.trans htotal)

end State

/-- Every elementary change leaves some of the records of every list, in their order, with the placed fields they had. -/
theorem Change.follows {w : Bool} {s u : State} (h : Change w s u) : Pool.Follows (Record.GoesOn s u) s.pool u.pool := by
  have hrefl : ∀ x ∈ s.pool.records, x.GoesOn s u x := fun x _ => .refl s u x
  cases h with
  | free k => exact Pool.follows_of_filter (Pool.freeRecord_lists s.pool k) hrefl
  | returned k f hidle hf => exact Pool.follows_update hrefl fun x _ _ => ⟨(hf x).1, fun _ => .pending (hf x).2⟩
  | pulseEnd b p r why => exact State.retire_follows _ _ _ p.slot r
  | start b r f e planned o hdue =>
    obtain ⟨-, -, hfind, hphase, hslot, -⟩ := State.dueHead_some hdue
    refine Pool.follows_update hrefl fun x hx hk => ⟨⟨rfl, rfl, rfl, rfl, rfl, rfl, rfl, rfl, le_rfl⟩, fun hp => ?_⟩
    obtain rfl := State.eq_of_find hp (hslot ▸ hfind) hx hk
    exact .same (by simp [Record.releasedDuration, hphase]) (by simp [Record.isPending, hphase])
  | release r d shortened new period hfind hpending hsync hsuppression hbudget =>
    exact State.releaseRecord_follows new period hfind hbudget
  | replan k r planned late =>
    refine Pool.follows_update hrefl fun x _ _ => ?_
    cases hx : x.phase with
    | released f t =>
      exact ⟨⟨rfl, rfl, rfl, rfl, rfl, rfl, rfl, rfl, le_rfl⟩, fun _ =>
        .same (by simp [Record.releasedDuration, hx]) (by simp [Record.isPending, hx])⟩
    | _ => exact .refl _ _ x
  | quarantine k r => exact Pool.follows_of_filter (Pool.quarantineRecord_lists s.pool k) hrefl
  | final t =>
    refine Pool.follows_mapAll fun x _ => ⟨(x.finalIf_keeps t).1, fun _ => .same ?_ (x.finalIf_keeps t).2.2.2⟩
    split
    · exact x.markFinal_duration
    · rfl
  | _ => exact Pool.follows_of_lists rfl hrefl

end Sys2Proof.Machine
end

section
/-! PROOF. The cylinder lists: each of its own cylinder, within the cap, in order of offset (R44, R45). -/

namespace Sys2Proof.Machine
open State

/-! ### A record put into a list in order of offset -/

theorem mem_insertByOffset {r x : Record} {l : List Record} : x ∈ insertByOffset r l ↔ x = r ∨ x ∈ l := by
  rw [(Pool.insertByOffset_perm r l).mem_iff, List.mem_cons]

/-- An insertion keeps the offsets of a list from decreasing. -/
theorem insertByOffset_ordered {r : Record} {l : List Record} (h : l.Pairwise fun x y => x.offset ≤ y.offset) :
    (insertByOffset r l).Pairwise fun x y => x.offset ≤ y.offset := by
  induction l with
  | nil => exact List.pairwise_singleton _ _
  | cons x xs ih =>
    obtain ⟨hx, hxs⟩ := List.pairwise_cons.mp h
    unfold insertByOffset
    split
    · next hlt =>
      refine List.pairwise_cons.mpr ⟨fun y hy => ?_, h⟩
      obtain rfl | hy := List.mem_cons.mp hy
      · exact hlt.le
      · exact hlt.le.trans (hx y hy)
    · next hge =>
      refine List.pairwise_cons.mpr ⟨fun y hy => ?_, ih hxs⟩
      obtain rfl | hy := mem_insertByOffset.mp hy
      · exact Int.not_lt.mp hge
      · exact hx y hy

/-- In an order by offset that has no offset twice, the offsets strictly increase. -/
theorem ascending_iff_ordered {l : List Record} :
    l.Pairwise (fun x y => x.offset < y.offset)
      ↔ l.Pairwise (fun x y => x.offset ≤ y.offset) ∧ (l.map fun x => x.offset).Nodup := by
  rw [List.Nodup, List.pairwise_map]
  exact ⟨fun h => ⟨h.imp fun h => h.le, h.imp fun h => h.ne⟩, fun h => (h.1.and h.2).imp fun ⟨hle, hne⟩ => lt_of_le_of_ne hle hne⟩

/-- An insertion of an offset that no record has keeps the offsets strictly increasing. -/
theorem insertByOffset_ascending {r : Record} {l : List Record} (h : l.Pairwise fun x y => x.offset < y.offset)
    (hr : ∀ x ∈ l, x.offset ≠ r.offset) : (insertByOffset r l).Pairwise fun x y => x.offset < y.offset := by
  obtain ⟨hordered, hnodup⟩ := ascending_iff_ordered.mp h
  refine ascending_iff_ordered.mpr ⟨insertByOffset_ordered hordered, ?_⟩
  rw [((Pool.insertByOffset_perm r l).map _).nodup_iff, List.map_cons, List.nodup_cons]
  refine ⟨fun hmem => ?_, hnodup⟩
  obtain ⟨x, hx, hoffset⟩ := List.mem_map.mp hmem
  exact hr x hx hoffset

theorem movedList_length (r : Record) {l : List Record} (h : (l.map fun x => x.slot).Nodup) :
    (Pool.movedList r l).length = l.length := by
  have hperm := (Pool.movedList_slots_perm r h).length_eq
  rwa [List.length_map, List.length_map] at hperm

theorem movedList_ordered {r : Record} {l : List Record} (h : l.Pairwise fun x y => x.offset ≤ y.offset) :
    (Pool.movedList r l).Pairwise fun x y => x.offset ≤ y.offset := by
  unfold Pool.movedList
  split
  · exact insertByOffset_ordered (h.sublist List.filter_sublist)
  · exact h

/-! ### The lists after a placement and an amendment -/

theorem Pool.insert_lists (p : Pool) (r : Record) (c : Cylinder) :
    (p.insert r).lists.get c = if c = r.cylinder then insertByOffset r (p.lists.get c) else p.lists.get c := by
  rw [Pool.insert, Eight.get_set]
  split
  · next h => rw [h]
  · rfl

namespace State

theorem filled_lists (s : State) (q : PlanInput) (marks : List Mark) (d : Nat) (tag : Byte) (carried : Bool) (repeats : Nat)
    (report : Bool) (k : Slot) (c : Cylinder) :
    (s.filled q marks d tag carried repeats report k).pool.lists.get c
      = if c = q.cylinder then
          insertByOffset ((s.displaceMarked marks).filledRecord k q d tag carried repeats report)
            ((s.displaceMarked marks).pool.lists.get c)
        else (s.displaceMarked marks).pool.lists.get c :=
  Pool.insert_lists _ _ c

/-- The displacements leave the records that are not marked. -/
theorem displaceMarked_lists (s : State) (marks : List Mark) (c : Cylinder) :
    (s.displaceMarked marks).pool.lists.get c
      = (s.pool.lists.get c).filter fun r => !(marks.any fun m => m.record.slot == r.slot) := by
  induction marks generalizing s with
  | nil => exact (List.filter_eq_self.mpr fun _ _ => rfl).symm
  | cons m marks ih =>
    have hone : ((s.freeSlot m.record.slot).reportDisplaced m.record m.cause).pool.lists.get c
        = (s.pool.lists.get c).filter fun r => r.slot != m.record.slot := by
      rw [reportDisplaced_pool]
      exact Pool.freeRecord_lists s.pool m.record.slot c
    rw [displaceMarked, List.foldl_cons, ← displaceMarked, ih, hone, List.filter_filter]
    refine List.filter_congr fun r _ => ?_
    rw [List.any_cons, Bool.not_or, Bool.and_comm, bne, BEq.comm]

/-- What an amendment leaves in a list: the record as amended in the place of its offset, or in its own place. -/
theorem replaceAmended_lists (s : State) (r : Record) (offset : Int) (d : Nat) (c : Cylinder) :
    (offset = r.offset ∧ (s.replaceAmended r offset d).pool.lists.get c
        = (s.pool.lists.get c).map fun x => if x.slot = r.slot then withDuration d x else x)
      ∨ (offset ≠ r.offset ∧ (s.replaceAmended r offset d).pool.lists.get c
        = Pool.movedList (s.amended r offset d) (s.pool.lists.get c)) := by
  obtain ⟨ho, heq⟩ | ⟨ho, heq⟩ := replaceAmended_cases s r offset d <;> rw [heq, setPool_pool]
  · exact .inl ⟨ho, Pool.update_lists _ _ _ _⟩
  · exact .inr ⟨ho, Pool.moveInList_lists _ _ _⟩

theorem replaceAmended_length {s : State} (hp : s.pool.partitioned) (r : Record) (offset : Int) (d : Nat) (c : Cylinder) :
    ((s.replaceAmended r offset d).pool.lists.get c).length = (s.pool.lists.get c).length := by
  obtain ⟨-, heq⟩ | ⟨-, heq⟩ := replaceAmended_lists s r offset d c <;> rw [heq]
  · exact List.length_map _
  · exact movedList_length _ (Pool.list_slots_nodup (Pool.partitioned_slots_nodup hp) c)

theorem amended_cylinder (s : State) (r : Record) (offset : Int) (d : Nat) : (s.amended r offset d).cylinder = r.cylinder := by
  unfold amended
  split <;> rfl

theorem amended_offset (s : State) (r : Record) (offset : Int) (d : Nat) : (s.amended r offset d).offset = offset := by
  unfold amended
  split
  · next h => exact h.symm
  · rfl

/-- A record of a list after an amendment is the amended one, in place of the record it was, or stood there before. -/
theorem mem_replaceAmended {s : State} (hp : s.pool.partitioned) {r : Record} (hfind : s.pool.find r.slot = some r)
    {offset : Int} {d : Nat} {c : Cylinder} {x : Record} (hx : x ∈ (s.replaceAmended r offset d).pool.lists.get c) :
    (x = s.amended r offset d ∧ r ∈ s.pool.lists.get c) ∨ (x ∈ s.pool.lists.get c ∧ x.slot ≠ r.slot) := by
  have hsame {y : Record} (hy : y ∈ s.pool.lists.get c) (hslot : y.slot = r.slot) : y = r :=
    eq_of_find hp hfind ((Pool.mem_records _ _).mpr ⟨c, hy⟩) hslot
  obtain ⟨ho, heq⟩ | ⟨-, heq⟩ := replaceAmended_lists s r offset d c <;> rw [heq] at hx
  · obtain ⟨y, hy, rfl⟩ := List.mem_map.mp hx
    split
    · next hslot =>
      obtain rfl := hsame hy hslot
      refine .inl ⟨?_, hy⟩
      rw [amended, if_pos ho, withDuration]
    · next hslot => exact .inr ⟨hy, hslot⟩
  · rw [Pool.mem_movedList, amended_slot] at hx
    obtain hx | ⟨rfl, y, hy, hslot⟩ := hx
    · exact .inr hx
    · exact .inl ⟨rfl, hsame hy hslot ▸ hy⟩

end State

/-! ### Own cylinder and cap (R44) -/

section change
variable {w : Bool} {s u : State}

theorem Change.sorted (h : Change w s u) (hs : s.pool.sorted) : u.pool.sorted := fun c hc y hy => by
  obtain ⟨x, hx, hxy⟩ := h.follows.mem hy
  rw [hxy.keeps.cylinder, hs c hc x hx]

theorem Change.withinCap (h : Change w s u) (hs : s.withinCap) : u.withinCap := fun c hc => by
  rw [h.engine]
  exact (h.follows.length_le c).trans (hs c hc)

theorem Change.ordered (h : Change w s u) (hs : s.pool.ordered) : u.pool.ordered := fun c hc =>
  h.follows.pairwise (fun x x' y y' hx hy hxy => by rwa [hx.keeps.offset, hy.keeps.offset]) (hs c hc)

theorem Change.ascending (h : Change w s u) (hs : s.pool.ascending) : u.pool.ascending := fun c hc =>
  h.follows.pairwise (fun x x' y y' hx hy hxy => by rwa [hx.keeps.offset, hy.keeps.offset]) (hs c hc)

theorem Path.sorted (h : Path w s u) : s.pool.sorted → u.pool.sorted :=
  h.keeps (P := fun s => s.pool.sorted) fun _ _ hc => hc.sorted

theorem Path.withinCap (h : Path w s u) : s.withinCap → u.withinCap :=
  h.keeps (P := fun s => s.withinCap) fun _ _ hc => hc.withinCap

theorem Path.ordered (h : Path w s u) : s.pool.ordered → u.pool.ordered :=
  h.keeps (P := fun s => s.pool.ordered) fun _ _ hc => hc.ordered

theorem Path.ascending (h : Path w s u) : s.pool.ascending → u.pool.ascending :=
  h.keeps (P := fun s => s.pool.ascending) fun _ _ hc => hc.ascending

end change

/-- A state with no record has empty lists. -/
theorem lists_of_empty {s : State} (h : s.pool.records = []) (c : Cylinder) : s.pool.lists.get c = [] :=
  List.eq_nil_iff_forall_not_mem.mpr fun x hx => by
    have := (Pool.mem_records s.pool x).mpr ⟨c, hx⟩
    rw [h] at this
    cases this

/-- The lists after a power-on reset are empty. -/
theorem lists_poweredOn (s : State) (lines : ResetLines) (c : Cylinder) : (s.poweredOn lines).pool.lists.get c = [] :=
  Eight.get_all [] c

section act
variable {s u : State}

theorem Act.sorted (h : Act s u) (hp : s.pool.partitioned) (hs : s.pool.sorted) : u.pool.sorted := by
  cases h with
  | calm h => exact h.sorted hs
  | whole h => exact h.sorted hs
  | place q marks d bc tag carried repeats report k rest hplan =>
    have hdisplaced := (displaceMarked_path true marks s (planFit_idle hplan)).sorted hs
    intro c hc x hx
    rw [filled_lists] at hx
    split at hx
    · next heq =>
      obtain rfl | hx := mem_insertByOffset.mp hx
      · exact heq.symm
      · exact hdisplaced c hc x hx
    · exact hdisplaced c hc x hx
  | amend r q marks d bc hfind hpending hplan hsound hexclude =>
    have hpath := displaceMarked_path true marks s (planFit_idle hplan)
    have hdisplaced := hpath.sorted hs
    intro c hc x hx
    obtain ⟨rfl, hr⟩ | ⟨hx, -⟩ := mem_replaceAmended (hpath.partitioned hp)
      (by rw [displaceMarked_find_excluded hplan hexclude]; exact hfind) hx
    · rw [amended_cylinder]
      exact hdisplaced c hc r hr
    · exact hdisplaced c hc x hx
  | reset lines =>
    intro c _ x hx
    rw [lists_poweredOn] at hx
    cases hx
  | config | commit => exact hs

/-- What an accepted plan of a new request leaves is below the cap (R89). -/
theorem displaceMarked_room {q : PlanInput} {marks : List Mark} {d : Nat} {bc : Bool} (hp : s.pool.partitioned) (hs : s.withinCap)
    (hplan : s.planFit q = .accepted marks d bc) (hexclude : q.exclude = none) :
    ((s.displaceMarked marks).pool.lists.get q.cylinder).length < s.engine.config.cap := by
  obtain ⟨-, -, -, -, -, hroom, -⟩ := planAcceptedFits s q marks d bc hp hs hplan
  have hsome (r : Record) : (some r.slot != q.exclude) = true := by rw [hexclude]; rfl
  simp only [hsome, Bool.true_and] at hroom
  rwa [displaceMarked_lists]

theorem Act.withinCap (h : Act s u) (hp : s.pool.partitioned) (hs : s.withinCap) : u.withinCap := by
  cases h with
  | calm h => exact h.withinCap hs
  | whole h => exact h.withinCap hs
  | place q marks d bc tag carried repeats report k rest hplan hsound hexclude =>
    have hpath := displaceMarked_path true marks s (planFit_idle hplan)
    have hengine : (s.filled q marks d tag carried repeats report k).engine = s.engine := hpath.engine
    intro c hc
    rw [filled_lists, hengine]
    split
    · next heq =>
      rw [(Pool.insertByOffset_perm _ _).length_eq, List.length_cons, heq]
      exact displaceMarked_room hp hs hplan hexclude
    · have hdisplaced := hpath.withinCap hs c hc
      rwa [hpath.engine] at hdisplaced
  | amend r q marks d bc hfind hpending hplan =>
    have hpath := displaceMarked_path true marks s (planFit_idle hplan)
    have hengine : ((s.displaceMarked marks).replaceAmended r q.offset d).engine = (s.displaceMarked marks).engine := by
      obtain ⟨-, heq⟩ | ⟨-, heq⟩ := replaceAmended_cases (s.displaceMarked marks) r q.offset d <;> rw [heq] <;> rfl
    intro c hc
    rw [replaceAmended_length (hpath.partitioned hp), hengine]
    exact hpath.withinCap hs c hc
  | reset lines =>
    intro c _
    rw [lists_poweredOn]
    exact Nat.zero_le _
  | config c hstopped hempty =>
    intro d _
    have hlists : (s.setEngine { config := c, valid := false, geometry := none }).pool.lists.get d = [] := lists_of_empty hempty d
    rw [hlists]
    exact Nat.zero_le _
  | commit => exact hs

/-- A record changed in its place with its offset kept keeps the order by offset. -/
theorem ordered_withDuration {k : Slot} {d : Nat} {R : Int → Int → Prop} {l : List Record}
    (h : l.Pairwise fun x y => R x.offset y.offset) :
    (l.map fun x => if x.slot = k then withDuration d x else x).Pairwise fun x y => R x.offset y.offset := by
  have hkeep (x : Record) : (if x.slot = k then withDuration d x else x).offset = x.offset := by split <;> rfl
  rw [List.pairwise_map]
  simpa only [hkeep] using h

theorem Act.ordered (h : Act s u) (hs : s.pool.ordered) : u.pool.ordered := by
  cases h with
  | calm h => exact h.ordered hs
  | whole h => exact h.ordered hs
  | place q marks d bc tag carried repeats report k rest hplan =>
    have hdisplaced := (displaceMarked_path true marks s (planFit_idle hplan)).ordered hs
    intro c hc
    rw [filled_lists]
    split
    · exact insertByOffset_ordered (hdisplaced c hc)
    · exact hdisplaced c hc
  | amend r q marks d bc hfind hpending hplan =>
    have hdisplaced := (displaceMarked_path true marks s (planFit_idle hplan)).ordered hs
    intro c hc
    obtain ⟨-, heq⟩ | ⟨-, heq⟩ := replaceAmended_lists (s.displaceMarked marks) r q.offset d c <;> rw [heq]
    · exact ordered_withDuration (R := (· ≤ ·)) (hdisplaced c hc)
    · exact movedList_ordered (hdisplaced c hc)
  | reset lines =>
    intro c _
    rw [lists_poweredOn]
    exact List.Pairwise.nil
  | config | commit => exact hs

end act

end Sys2Proof.Machine
end

section
/-! PROOF. The ranges of logs, queues, counters and limits, and the carry counts. -/

namespace Sys2Proof.Machine
open State

/-! ### What a change leaves in the status table -/

/-- How a status entry goes on in one elementary change: its bank and TDC kept, its streak and carry count in range. -/
structure CylinderStatus.GoesOn (s : State) (e e' : CylinderStatus) : Prop where
  bank : e'.bank = e.bank
  tdc : e'.tdc = e.tdc
  streak : e.streak ≤ 3 → e'.streak ≤ 3
  carryCount : e'.carryCount = e.carryCount ∨ e'.carryCount = 0
    ∨ (s.clock.sync = .synced ∧ e.carryCount < s.engine.config.carryLimit ∧ e'.carryCount = e.carryCount + 1)

theorem CylinderStatus.GoesOn.refl (s : State) (e : CylinderStatus) : e.GoesOn s e := ⟨rfl, rfl, id, .inl rfl⟩

theorem closePulse_goesOn (s : State) (p : RunningPulse) (r : Record) (why : PulseEnd) (driven : Nat) :
    (s.table.get r.cylinder).GoesOn s (s.closePulse p r why driven) := by
  obtain ⟨hbank, htdc, -, -, -, hstreak⟩ := closePulse_keeps s p r why driven
  refine ⟨hbank, htdc, fun h => ?_, ?_⟩
  · rw [hstreak]
    split
    · exact Nat.zero_le _
    · exact h
  · unfold closePulse
    dsimp only
    split
    · split
      · exact .inr (.inl rfl)
      · exact .inl rfl
    · exact .inl rfl

section change
variable {w : Bool} {s u : State}

/-- One entry of the table replaced. -/
theorem table_set_goesOn {s : State} {c : Cylinder} {e : CylinderStatus} (h : (s.table.get c).GoesOn s e) (d : Cylinder) :
    (s.table.get d).GoesOn s ((s.table.set c e).get d) := by
  rw [Eight.get_set]
  split
  · next hd => exact hd ▸ h
  · exact .refl s _

theorem Change.table_goesOn (h : Change w s u) (c : Cylinder) : (s.table.get c).GoesOn s (u.table.get c) := by
  cases h with
  | table x htended => exact ⟨(htended c).bank, (htended c).tdc, (htended c).streak, (htended c).carryCount⟩
  | boundary d =>
    exact table_set_goesOn (c := d) (e := { s.table.get d with lastFired := (s.table.get d).fired, fired := 0, released := 0 })
      ⟨rfl, rfl, id, .inl rfl⟩ c
  | pulseEnd b p r why =>
    have htable : (s.closeBank b p r why).table
        = s.table.set r.cylinder (s.closePulse p r why (passedBy s.timeBase (s.actualStart r))) := retire_table _ _ _
    rw [htable]
    exact table_set_goesOn (closePulse_goesOn s p r why _) c
  | release r d shortened new period =>
    exact table_set_goesOn (c := r.cylinder)
      (e := { s.table.get r.cylinder with released := (s.table.get r.cylinder).released + d }) ⟨rfl, rfl, id, .inl rfl⟩ c
  | _ => exact .refl s _

/-! ### Logs, queues, counters, limits (R64, R70, R73, R117, R125, R144, R147) -/

theorem linkBounded_congr {s u : State} {l : Link} (h : u.links.get l = s.links.get l) (hs : s.linkBounded l) : u.linkBounded l := by
  rw [linkBounded, h]
  exact hs

/-- The ranges speak of links, staging, streaks, capture record and limits alone. -/
theorem bounded_congr {s u : State} (hlinks : u.links = s.links) (hstaging : u.staging = s.staging)
    (htable : ∀ c, (s.table.get c).streak ≤ 3 → (u.table.get c).streak ≤ 3) (hfaults : u.faults = s.faults)
    (hlimits : u.limits = s.limits) (hs : s.bounded) : u.bounded := by
  unfold bounded linkBounded portBounded limitsBounded
  rw [hlinks, hstaging, hfaults, hlimits]
  obtain ⟨h1, h2, h3, h4, h5⟩ := hs
  exact ⟨h1, h2, h3, fun c hc => htable c (h4 c hc), h5⟩

theorem Change.bounded (h : Change w s u) (hs : s.bounded) : u.bounded := by
  have hstreak (c : Cylinder) := (h.table_goesOn c).streak
  obtain ⟨hlinks, hports, hrun, hstreaks, hcapture, hlimits⟩ := hs
  cases h with
  | link l p hbounded =>
    refine ⟨fun m hm => ?_, hports, hrun, hstreaks, hcapture, hlimits⟩
    by_cases hml : m = l
    · exact hml ▸ hbounded (hlinks l (hml ▸ hm))
    · exact linkBounded_congr (s := s) (by simp [setLink_links, hml]) (hlinks m hm)
  | faults x hx =>
    refine ⟨hlinks, hports, hrun, hstreaks, fun y hy => ?_, hlimits⟩
    obtain hle | hold := hx y hy
    · exact hle
    · exact hcapture y hold
  | staging x hbounded =>
    obtain ⟨hports', hrun'⟩ := hbounded (fun o => hports o (by cases o <;> decide)) hrun
    exact ⟨hlinks, fun o _ => hports' o, hrun', hstreaks, hcapture, hlimits⟩
  | limits x hbounded => exact ⟨hlinks, hports, hrun, hstreaks, hcapture, hbounded hlimits⟩
  | pulseEnd b p r why =>
    exact bounded_congr (s := s) (closeBank_links _ _ _ _ _) (closeBank_staging _ _ _ _ _) hstreak (closeBank_faults _ _ _ _ _)
      (closeBank_limits _ _ _ _ _) ⟨hlinks, hports, hrun, hstreaks, hcapture, hlimits⟩
  | _ => exact ⟨hlinks, hports, hrun, fun c hc => hstreak c (hstreaks c hc), hcapture, hlimits⟩

theorem Path.bounded (h : Path w s u) : s.bounded → u.bounded := h.keeps fun _ _ hc => hc.bounded

/-! ### Carry counts (R8, R104) -/

theorem Change.carrySound (h : Change false s u) (hs : s.carrySound) : u.carrySound := by
  have hclock : u.clock.sync = .stopped → s.clock.sync = .stopped := by
    cases h with
    | clock x hsound hcalm =>
      intro hx
      have hx' : x.sync = .stopped := hx
      obtain hsame | ⟨-, hnot⟩ := hcalm.resolve_left (by simp)
      · exact hsame.symm.trans hx'
      · exact absurd hx' hnot
    | pulseEnd b p r why => rw [closeBank_clock]; exact id
    | _ => exact id
  intro c hc
  obtain ⟨hle, hzero⟩ := hs c hc
  rw [h.engine]
  obtain heq | heq | ⟨hsynced, hlt, heq⟩ := (h.table_goesOn c).carryCount <;> rw [heq]
  · exact ⟨hle, fun hstopped => hzero (hclock hstopped)⟩
  · exact ⟨Nat.zero_le _, fun _ => rfl⟩
  · refine ⟨hlt, fun hstopped => ?_⟩
    rw [hclock hstopped] at hsynced
    cases hsynced

theorem Path.carrySound (h : Path false s u) : s.carrySound → u.carrySound := h.keeps fun _ _ hc => hc.carrySound

end change

section act
variable {s u : State}

theorem replaceAmended_registers (s : State) (r : Record) (offset : Int) (d : Nat) :
    s.replaceAmended r offset d = s.setPool (s.replaceAmended r offset d).pool := by
  obtain ⟨-, heq⟩ | ⟨-, heq⟩ := replaceAmended_cases s r offset d <;> rw [heq] <;> rfl

theorem Act.bounded (h : Act s u) (hs : s.bounded) : u.bounded := by
  cases h with
  | calm h => exact h.bounded hs
  | whole h => exact h.bounded hs
  | place q marks d bc tag carried repeats report k rest hplan =>
    exact (displaceMarked_path true marks s (planFit_idle hplan)).bounded hs
  | amend r q marks d bc hfind hpending hplan =>
    rw [replaceAmended_registers]
    exact (displaceMarked_path true marks s (planFit_idle hplan)).bounded hs
  | reset lines =>
    obtain ⟨-, -, -, -, -, -, -, -, -, ⟨hlinks, hrest⟩, -⟩ := invariantsAtReset
    refine ⟨fun l hl => ?_, hrest⟩
    have hlink := hlinks l hl
    cases l <;> exact hlink
  | config => exact hs
  | commit =>
    refine bounded_congr (s := s) rfl rfl (fun c hc => ?_) rfl rfl hs
    rw [setTable_table, Eight.get_map]
    exact hc

theorem Act.carrySound (h : Act s u) (hs : s.carrySound) : u.carrySound := by
  cases h with
  | calm h => exact h.carrySound hs
  | whole h hallowed hcarry => exact hcarry hs
  | place q marks d bc tag carried repeats report k rest hplan =>
    exact (displaceMarked_path false marks s (planFit_idle hplan)).carrySound hs
  | amend r q marks d bc hfind hpending hplan =>
    rw [replaceAmended_registers]
    exact (displaceMarked_path false marks s (planFit_idle hplan)).carrySound hs
  | reset lines =>
    obtain ⟨-, -, -, -, -, -, -, -, -, -, hcarry, -⟩ := invariantsAtReset
    exact hcarry
  | config c hstopped hempty =>
    intro d hd
    have hzero := (hs d hd).2 hstopped
    refine ⟨?_, fun _ => hzero⟩
    rw [setEngine_table, hzero]
    exact Nat.zero_le _
  | commit =>
    intro d _
    rw [setTable_table, Eight.get_map]
    exact ⟨Nat.zero_le _, fun _ => rfl⟩

end act

end Sys2Proof.Machine
end

section
/-! PROOF. Configuration items, derived values, record fields and carry entries in their ranges. -/

namespace Sys2Proof.Machine
open State

/-! ### The derived values (R26, R27, R30, R31, R60) -/

namespace State

/-- The derived values depend on the configuration, and on banks and TDCs alone. -/
theorem engineSound_congr {s u : State} (hengine : u.engine = s.engine)
    (htable : ∀ c, (u.table.get c).bank = (s.table.get c).bank ∧ (u.table.get c).tdc = (s.table.get c).tdc) :
    u.engineSound = s.engineSound := by
  unfold engineSound
  simp only [hengine, (htable _).1, (htable _).2]

/-- What the geometry of a valid configuration is. -/
theorem engineSound_geometry {s : State} (h : s.engineSound = true) (hvalid : s.engine.valid = true) :
    s.geometry.pw = 1000000 / s.engine.config.speed
      ∧ s.geometry.dwellSpan = (s.engine.config.minDwell * 96 + (s.geometry.pw - 1)) / s.geometry.pw := by
  unfold engineSound at h
  unfold geometry
  cases hg : s.engine.geometry with
  | none => simp [hvalid, hg] at h
  | some g =>
    simp only [hvalid, hg, Bool.not_true, Bool.false_or, Bool.and_eq_true, beq_iff_eq] at h
    obtain ⟨-, ⟨⟨⟨-, hpw⟩, hdwell⟩, -⟩, -⟩ := h
    exact ⟨hpw, by rw [Option.getD_some, hpw, hdwell]⟩

theorem engineSound_of_invalid {s : State} (h : s.engine.valid = false) : s.engineSound = true := by
  simp [engineSound, h]

end State

theorem EngineConfig.consistent_order {c : EngineConfig} (h : c.inconsistent = none) :
    c.orderOk = true ∧ c.preWindow.lo ≤ c.preWindow.hi ∧ c.mainWindow.lo ≤ c.mainWindow.hi
      ∧ c.afterWindow.lo ≤ c.afterWindow.hi ∧ c.lateWindow.lo ≤ c.lateWindow.hi := by
  unfold inconsistent at h
  split_ifs at h with h1 h2 h3 h4 h5 h6 h7
  exact ⟨by simpa using h1, Int.not_lt.mp h4, Int.not_lt.mp h5, Int.not_lt.mp h6, Int.not_lt.mp h7⟩

/-- A commit derives the values that belong to its items (R170). -/
theorem engineSound_committed {s : State} (hrange : s.engine.config.inRange) (hconsistent : s.engine.config.inconsistent = none) :
    ((s.setEngine { config := s.engine.config, valid := true, geometry := some s.engine.config.derive }).setTable
      (s.table.map s.engine.config.entry)).engineSound = true := by
  obtain ⟨horder, hpre, hmain, hafter, hlate⟩ := EngineConfig.consistent_order hconsistent
  have hcount := hrange.1
  have hsmall : s.engine.config.cylinderCount ≤ 8 := by omega
  have hentry (x : Cylinder) (hx : x ∈ s.engine.config.order) : s.engine.config.entry x (s.table.get x) = _ :=
    entry_of_position hcount horder (List.getElem?_eq_some_iff.mpr ⟨List.idxOf_lt_length_of_mem hx, List.getElem_idxOf _⟩)
      (s.table.get x)
  have hall : ∀ i < s.engine.config.cylinderCount, s.engine.config.orderNumbers.count (i + 1) = 1 := fun i hi =>
    (orderOk_iff _).mp horder (i + 1) (by omega) (by omega)
  have hnumbers := order_numbers hsmall horder
  unfold engineSound
  simp only [setTable_engine, setEngine_engine, setTable_table, Bool.not_true, Bool.false_or, Bool.and_eq_true,
    List.all_eq_true, List.mem_range, beq_iff_eq]
  refine ⟨⟨⟨⟨⟨decide_eq_true hpre, decide_eq_true hmain⟩, decide_eq_true hafter⟩, decide_eq_true hlate⟩, hall⟩, ⟨⟨⟨hnumbers, rfl⟩, ?_⟩, ?_⟩, fun x hx => ?_⟩
  · exact span_eq _ _
  · exact span_eq _ _
  · rw [Eight.get_map, hentry x hx]
    exact ⟨rfl, rfl⟩

/-! ### Records, quarantine and carry entries -/

section change
variable {w : Bool} {s u : State}

theorem Pool.freeRecord_quarantine (p : Pool) (k : Slot) : (p.freeRecord k).quarantine = p.quarantine := by
  unfold Pool.freeRecord
  split <;> rfl

theorem retire_quarantine (s : State) (k : Slot) (r : Record) : (s.retire k r).1.pool.quarantine = s.pool.quarantine := by
  obtain ⟨-, heq⟩ | ⟨-, -, heq⟩ | ⟨-, -, heq⟩ := retire_cases s k r <;> rw [heq]
  · exact Pool.freeRecord_quarantine s.pool k
  · rfl
  · rfl

/-- A quarantined record was quarantined before or stood in a cylinder list. -/
theorem Change.mem_quarantine (h : Change w s u) {r : Record} (hr : r ∈ u.pool.quarantine) :
    r ∈ s.pool.quarantine ∨ r ∈ s.pool.records := by
  cases h with
  | free k => exact .inl (Pool.freeRecord_quarantine s.pool k ▸ hr)
  | pulseEnd b p x why =>
    have hsame : (s.closeBank b p x why).pool.quarantine = s.pool.quarantine := retire_quarantine _ p.slot x
    exact .inl (hsame ▸ hr)
  | quarantine k x hfind =>
    rw [setPool_pool, Pool.quarantineRecord_of_find hfind] at hr
    obtain hr | hr := List.mem_append.mp hr
    · exact .inl hr
    · exact .inr (List.mem_singleton.mp hr ▸ (Pool.find_some hfind).1)
  | scrub => cases hr
  | _ => exact .inl hr

/-- A carry entry was there before, or is that of a fuel MAIN whose pulse has ended (R104). -/
theorem Change.carry_cases (h : Change w s u) {c : Cylinder} {x : CarryEntry} (hx : (u.table.get c).carry = some x) :
    (s.table.get c).carry = some x
      ∨ ∃ r ∈ s.pool.records, r.kind = .main ∧ r.isPending = false ∧ x.offset = r.offset ∧ x.duration = r.releasedDuration := by
  cases h with
  | table y htended =>
    obtain hsame | hnone := (htended c).carry
    · exact .inl (hsame ▸ hx)
    · have hx' : (y.get c).carry = some x := hx
      rw [hnone] at hx'
      cases hx'
  | boundary d =>
    rw [setCylinder_table, Eight.get_set] at hx
    split at hx
    · next hd => exact .inl (hd ▸ hx)
    · exact .inl hx
  | release r d shortened new period =>
    have htable : (s.releaseRecord r d shortened new period).table
        = s.table.set r.cylinder { s.table.get r.cylinder with released := (s.table.get r.cylinder).released + d } := rfl
    rw [htable, Eight.get_set] at hx
    split at hx
    · next hd => exact .inl (hd ▸ hx)
    · exact .inl hx
  | pulseEnd b p r why hrun hfind =>
    have htable : (s.closeBank b p r why).table
        = s.table.set r.cylinder (s.closePulse p r why (passedBy s.timeBase (s.actualStart r))) := retire_table _ _ _
    rw [htable, Eight.get_set] at hx
    split at hx
    · next hd =>
      unfold closePulse at hx
      dsimp only at hx
      split at hx
      · next f actual hphase =>
        split at hx
        · next hmain =>
          cases hx
          exact .inr ⟨r, (Pool.find_some hfind).1, hmain.2.2.1, by simp [Record.isPending, hphase], rfl,
            by simp [Record.releasedDuration, hphase]⟩
        · exact .inl (hd ▸ hx)
      · exact .inl (hd ▸ hx)
    · exact .inl hx
  | _ => exact .inl hx

theorem Record.Keeps.fieldsBounded {r r' : Record} (h : r.Keeps r') (hr : r.fieldsBounded) : r'.fieldsBounded := by
  unfold Record.fieldsBounded at *
  rw [h.priority, h.duration, h.start]
  have := h.repeats
  omega

/-- A record that goes on is as sound as it was. -/
theorem Record.GoesOn.placedSound {r r' : Record} (h : r.GoesOn s u r') (hp : s.pool.partitioned) (hengine : u.engine = s.engine)
    (htdc : ∀ c, (u.table.get c).tdc = (s.table.get c).tdc) (hr : s.placedSound r) : u.placedSound r' := by
  obtain ⟨hfields, hconfigured, hlo, hhi, hstart, hphase⟩ := hr
  have hconf : u.configured = s.configured := by rw [State.configured, State.configured, State.geometry, State.geometry, hengine]
  refine ⟨h.keeps.fieldsBounded hfields, ?_, ?_, ?_, ?_, ?_⟩
  · rwa [h.keeps.cylinder, hconf]
  · rwa [h.keeps.kind, h.keeps.offset, hengine]
  · rwa [h.keeps.kind, h.keeps.offset, hengine]
  · rwa [h.keeps.start, h.keeps.cylinder, h.keeps.offset, htdc]
  · rw [h.keeps.duration]
    cases h.drives hp with
    | pending h => exact .inl (by simp [Record.isPending, h])
    | same hd hpend => rwa [hd, hpend]
    | released hleast hmost =>
      obtain ⟨-, -, hmin, -⟩ := hfields
      exact .inr ⟨hleast hmin, hmost⟩

theorem Change.rangesSound (h : Change w s u) (hp : s.pool.partitioned) (hs : s.rangesSound) : u.rangesSound := by
  obtain ⟨hconfig, hengine, hrecords, hquarantine, hcarry⟩ := hs
  refine ⟨h.engine ▸ hconfig, ?_, fun r' hr' => ?_, fun r hr => ?_, fun c hc x hx => ?_⟩
  · rw [engineSound_congr h.engine fun c => ⟨(h.table_goesOn c).bank, (h.table_goesOn c).tdc⟩]
    exact hengine
  · obtain ⟨r, hr, hgoes⟩ := h.follows.mem_records hr'
    exact hgoes.placedSound hp h.engine (fun c => (h.table_goesOn c).tdc) (hrecords r hr)
  · obtain hr | hr := h.mem_quarantine hr
    · exact hquarantine r hr
    · exact (hrecords r hr).1
  · rw [h.engine]
    obtain hold | ⟨r, hr, hmain, hpending, hoffset, hduration⟩ := h.carry_cases hx
    · exact hcarry c hc x hold
    · obtain ⟨⟨-, -, -, hmax, -⟩, -, hlo, hhi, -, hphase⟩ := hrecords r hr
      rw [hmain] at hlo hhi
      rw [hpending] at hphase
      obtain ⟨hleast, hmost⟩ := hphase.resolve_left (by simp)
      rw [hoffset, hduration]
      exact ⟨hleast, hmost.trans hmax, fun _ => ⟨hlo, hhi⟩⟩

theorem Path.rangesSound (h : Path w s u) (hp : s.pool.partitioned) (hs : s.rangesSound) : u.rangesSound :=
  (h.keeps (P := fun s => s.pool.partitioned ∧ s.rangesSound)
    (fun _ _ hc ⟨hp, hs⟩ => ⟨hc.partitioned hp, hc.rangesSound hp hs⟩) ⟨hp, hs⟩).2

end change

/-! ### Records placed and amended -/

theorem modCycle_le (x : Int) : modCycle x ≤ 11519 := by
  unfold modCycle Config.cycleSteps
  omega

theorem PlanInput.Sound.congr {s u : State} {q : PlanInput} (h : q.Sound s) (hengine : u.engine = s.engine) : q.Sound u := by
  obtain ⟨hpriority, hduration, hconfigured, hoffset⟩ := h
  refine ⟨hpriority, hduration, ?_, by rwa [hengine]⟩
  rwa [State.configured, State.geometry, hengine]

/-- The record of an accepted request is sound. -/
theorem filledRecord_placedSound {s : State} {q : PlanInput} (hq : q.Sound s) (k : Slot) {d : Nat} (hd : 20 ≤ d ∧ d ≤ q.duration)
    (tag : Byte) (carried : Bool) {repeats : Nat} (hrepeats : repeats ≤ 255) (report : Bool) :
    s.placedSound (s.filledRecord k q d tag carried repeats report) := by
  obtain ⟨⟨hlow, hhigh⟩, ⟨-, hmax⟩, hconfigured, hoffset⟩ := hq
  exact ⟨⟨hlow, hhigh, hd.1, hd.2.trans hmax, hrepeats, modCycle_le _⟩, hconfigured, hoffset.1, hoffset.2, rfl, .inl rfl⟩

/-- An amended record is sound. -/
theorem amended_placedSound {s : State} {q : PlanInput} {r : Record} (hq : q.Sound s) (hr : s.placedSound r)
    (hpending : r.isPending = true) (hkind : q.kind = r.kind) {d : Nat} (hd : 20 ≤ d ∧ d ≤ q.duration) :
    s.placedSound (s.amended r q.offset d) := by
  obtain ⟨⟨hlow, hhigh, -, -, hrepeats, hangle⟩, hconfigured, -, -, hstart, -⟩ := hr
  have hmax := hd.2.trans hq.duration.2
  have hoffset := hq.offset
  rw [hkind] at hoffset
  unfold amended
  split
  · next ho =>
    rw [ho] at hoffset
    exact ⟨⟨hlow, hhigh, hd.1, hmax, hrepeats, hangle⟩, hconfigured, hoffset.1, hoffset.2, hstart, .inl hpending⟩
  · exact ⟨⟨hlow, hhigh, hd.1, hmax, hrepeats, modCycle_le _⟩, hconfigured, hoffset.1, hoffset.2, rfl, .inl hpending⟩

section act
variable {s u : State}

theorem Act.rangesSound (h : Act s u) (hp : s.pool.partitioned) (hb : s.bounded) (hs : s.rangesSound) : u.rangesSound := by
  cases h with
  | calm h => exact h.rangesSound hp hs
  | whole h => exact h.rangesSound hp hs
  | place q marks d bc tag carried repeats report k rest hplan hsound hexclude hrepeats =>
    have hpath := displaceMarked_path true marks s (planFit_idle hplan)
    obtain ⟨hmost, hleast⟩ := planFit_duration hplan
    have hq := hsound hs hb
    obtain ⟨hconfig, hengine, hrecords, hquarantine, hcarry⟩ := hpath.rangesSound hp hs
    refine ⟨hconfig, hengine, fun r hr => ?_, hquarantine, hcarry⟩
    obtain rfl | hr := List.mem_cons.mp ((Pool.records_insert _ _).mem_iff.mp hr)
    · exact filledRecord_placedSound (hq.congr hpath.engine) k ⟨hleast hq.duration.1, hmost⟩ tag carried hrepeats report
    · exact hrecords r hr
  | amend r q marks d bc hfind hpending hplan hsound hexclude hcylinder hkind =>
    have hpath := displaceMarked_path true marks s (planFit_idle hplan)
    obtain ⟨hmost, hleast⟩ := planFit_duration hplan
    have hq := hsound hs hb
    obtain ⟨hconfig, hengine, hrecords, hquarantine, hcarry⟩ := hpath.rangesSound hp hs
    have hfind' : (s.displaceMarked marks).pool.find r.slot = some r := by
      rw [displaceMarked_find_excluded hplan hexclude]
      exact hfind
    have hlists (x : Record) (hx : x ∈ ((s.displaceMarked marks).replaceAmended r q.offset d).pool.records) :
        (s.displaceMarked marks).placedSound x := by
      obtain ⟨c, hc⟩ := (Pool.mem_records _ _).mp hx
      obtain ⟨rfl, hr⟩ | ⟨hx, -⟩ := mem_replaceAmended (hpath.partitioned hp) hfind' hc
      · exact amended_placedSound (hq.congr hpath.engine) (hrecords r ((Pool.mem_records _ _).mpr ⟨c, hr⟩)) hpending hkind
          ⟨hleast hq.duration.1, hmost⟩
      · exact hrecords x ((Pool.mem_records _ _).mpr ⟨c, hx⟩)
    have hquar : ((s.displaceMarked marks).replaceAmended r q.offset d).pool.quarantine = (s.displaceMarked marks).pool.quarantine := by
      obtain ⟨-, heq⟩ | ⟨-, heq⟩ := replaceAmended_cases (s.displaceMarked marks) r q.offset d <;> rw [heq] <;> rfl
    rw [← hquar] at hquarantine
    rw [replaceAmended_registers]
    exact ⟨hconfig, hengine, hlists, hquarantine, hcarry⟩
  | reset lines =>
    obtain ⟨-, -, -, -, -, hranges, -⟩ := invariantsAtReset
    exact hranges
  | config c hstopped hempty hrange =>
    obtain ⟨hconfig, hengine, hrecords, hquarantine, hcarry⟩ := hs
    refine ⟨hrange hconfig, engineSound_of_invalid rfl, fun r hr => ?_, hquarantine, fun d hd x hx => ?_⟩
    · have hr' : r ∈ s.pool.records := hr
      rw [hempty] at hr'
      cases hr'
    · obtain ⟨hlo, hhi, -⟩ := hcarry d hd x hx
      exact ⟨hlo, hhi, fun hvalid => by cases hvalid⟩
  | commit hstopped hempty hconsistent =>
    obtain ⟨hconfig, hengine, hrecords, hquarantine, hcarry⟩ := hs
    refine ⟨hconfig, engineSound_committed hconfig hconsistent, fun r hr => ?_, hquarantine, fun d hd x hx => ?_⟩
    · have hr' : r ∈ s.pool.records := hr
      rw [hempty] at hr'
      cases hr'
    · rw [setTable_table, Eight.get_map] at hx
      cases hx

end act

end Sys2Proof.Machine
end

section
/-! PROOF. The offsets of a list strictly increase: two records of a list with one offset would conflict (O11). -/

namespace Sys2Proof.Machine
open State

namespace State

/-- A record that an accepted plan leaves in the request's list does not clash with the request (R87). -/
theorem not_clashes_of_displaced {s : State} {q : PlanInput} {marks : List Mark} {d : Nat} {bc : Bool}
    (hplan : s.planFit q = .accepted marks d bc) {r : Record} (hr : r ∈ (s.displaceMarked marks).pool.lists.get q.cylinder)
    (hexclude : some r.slot ≠ q.exclude) : r ∈ s.pool.lists.get q.cylinder ∧ s.clashes q s.geometry.dwellSpan r = false := by
  obtain ⟨own, capacity, budget, left, hsteps⟩ := planFit_accepted hplan
  rw [displaceMarked_lists] at hr
  obtain ⟨hmem, hkept⟩ := List.mem_filter.mp hr
  refine ⟨hmem, Bool.eq_false_of_not_eq_true fun hclash => ?_⟩
  have hlist : r ∈ s.listWithout q.cylinder q.exclude := List.mem_filter.mpr ⟨hmem, by simpa using hexclude⟩
  have hmark : ({ record := r, cause := .conflict } : Mark) ∈ marks := by
    rw [hsteps.marks_eq]
    exact List.mem_append_left _ (List.mem_append_left _
      (List.mem_map_of_mem (mem_conflictSet_iff.mpr (.inl ⟨hlist, hclash⟩))))
  have hany : (marks.any fun m => m.record.slot == r.slot) = true := List.any_eq_true.mpr ⟨_, hmark, by simp⟩
  rw [hany] at hkept
  cases hkept

theorem angleFrom_self (a : Nat) : angleFrom a a = 0 := by
  simp [angleFrom, modCycle]

/-- The dwell span of a valid configuration in range is at least one step (R30, R165). -/
theorem dwellSpan_pos {s : State} (hs : s.rangesSound) (hvalid : s.engine.valid = true) : 0 < s.geometry.dwellSpan := by
  obtain ⟨hconfig, hengine, -⟩ := hs
  obtain ⟨hpw, hdwell⟩ := engineSound_geometry hengine hvalid
  obtain ⟨-, -, -, -, -, ⟨hslow, hfast⟩, ⟨hshort, -⟩, -⟩ := hconfig
  have hpos : 0 < s.geometry.pw := by
    rw [hpw]
    exact Nat.div_pos (by omega) (by omega)
  rw [hdwell]
  exact Nat.div_pos (by omega) hpos

/-- A record of the request's list with the request's offset starts at its angle, and so clashes with it (R32). -/
theorem clashes_of_offset {s : State} {q : PlanInput} (hs : s.rangesSound) (hq : q.Sound s) {r : Record} (hr : s.placedSound r)
    (hcylinder : r.cylinder = q.cylinder) (hoffset : r.offset = q.offset) : s.clashes q s.geometry.dwellSpan r = true := by
  have hpos := dwellSpan_pos hs (valid_of_configured hq.configured)
  obtain ⟨-, -, -, -, hstart, -⟩ := hr
  have hangle : r.start = startAngle (s.table.get q.cylinder).tdc q.offset := by rw [hstart, hcylinder, hoffset]; rfl
  rw [clashes, conflicts, hangle, angleFrom_self, Bool.or_eq_true, decide_eq_true_iff]
  left
  omega

/-- No record that an accepted plan leaves in the request's list has the request's offset. -/
theorem offset_ne_of_displaced {s : State} {q : PlanInput} {marks : List Mark} {d : Nat} {bc : Bool} (hsorted : s.pool.sorted)
    (hs : s.rangesSound) (hq : q.Sound s) (hplan : s.planFit q = .accepted marks d bc) {r : Record}
    (hr : r ∈ (s.displaceMarked marks).pool.lists.get q.cylinder) (hexclude : some r.slot ≠ q.exclude) : r.offset ≠ q.offset := by
  obtain ⟨hmem, hclash⟩ := not_clashes_of_displaced hplan hr hexclude
  intro hoffset
  have hrecords := hs.2.2.1
  rw [clashes_of_offset hs hq (hrecords r ((Pool.mem_records _ _).mpr ⟨_, hmem⟩)) (hsorted _ (mem_allCylinders _) r hmem) hoffset]
    at hclash
  cases hclash

end State

theorem movedList_ascending {r : Record} {l : List Record} (h : l.Pairwise fun x y => x.offset < y.offset)
    (hr : (∃ x ∈ l, x.slot = r.slot) → ∀ x ∈ l, x.slot ≠ r.slot → x.offset ≠ r.offset) :
    (Pool.movedList r l).Pairwise fun x y => x.offset < y.offset := by
  unfold Pool.movedList
  split
  · next hany =>
    refine insertByOffset_ascending (h.sublist List.filter_sublist) fun x hx => ?_
    obtain ⟨hmem, hslot⟩ := List.mem_filter.mp hx
    exact hr (by simpa using hany) x hmem (by simpa using hslot)
  · exact h

theorem Act.ascending {s u : State} (h : Act s u) (hp : s.pool.partitioned) (hsorted : s.pool.sorted) (hb : s.bounded)
    (hranges : s.rangesSound) (hs : s.pool.ascending) : u.pool.ascending := by
  cases h with
  | calm h => exact h.ascending hs
  | whole h => exact h.ascending hs
  | place q marks d bc tag carried repeats report k rest hplan hsound hexclude =>
    have hdisplaced := (displaceMarked_path true marks s (planFit_idle hplan)).ascending hs
    intro c hc
    rw [filled_lists]
    split
    · next heq =>
      subst heq
      exact insertByOffset_ascending (hdisplaced _ hc) fun x hx =>
        offset_ne_of_displaced hsorted hranges (hsound hranges hb) hplan hx (by simp [hexclude])
    · exact hdisplaced c hc
  | amend r q marks d bc hfind hpending hplan hsound hexclude hcylinder =>
    have hpath := displaceMarked_path true marks s (planFit_idle hplan)
    have hdisplaced := hpath.ascending hs
    have hfind' : (s.displaceMarked marks).pool.find r.slot = some r := by
      rw [displaceMarked_find_excluded hplan hexclude]
      exact hfind
    intro c hc
    obtain ⟨-, heq⟩ | ⟨-, heq⟩ := replaceAmended_lists (s.displaceMarked marks) r q.offset d c <;> rw [heq]
    · exact ordered_withDuration (R := (· < ·)) (hdisplaced c hc)
    · refine movedList_ascending (hdisplaced c hc) fun ⟨y, hy, hslot⟩ x hx hne => ?_
      rw [amended_slot] at hslot hne
      obtain rfl : y = r := eq_of_find (hpath.partitioned hp) hfind' ((Pool.mem_records _ _).mpr ⟨c, hy⟩) hslot
      have hown : c = q.cylinder := by rw [hcylinder, hpath.sorted hsorted c hc y hy]
      subst hown
      rw [amended_offset]
      exact offset_ne_of_displaced hsorted hranges (hsound hranges hb) hplan hx (by simpa [hexclude] using hne)
  | reset lines =>
    intro c _
    rw [lists_poweredOn]
    exact List.Pairwise.nil
  | config | commit => exact hs

/-- Settles O11: lists only lose records or take one in its place by offset; an accepted plan leaves room and no record of the same offset. -/
theorem cylinderListsWithinCap : Obligations.CylinderListsWithinCap := by
  unfold Obligations.CylinderListsWithinCap
  refine ⟨fun s s' hp hsorted hcap h => ?_, fun s s' hs h => ?_, fun s s' hp hsorted hb hr hs h => ?_⟩
  · exact (step_keeps (P := fun s => s.pool.partitioned ∧ s.pool.sorted ∧ s.withinCap)
      (fun _ _ hact ⟨hp, hs, hc⟩ => ⟨hact.partitioned hp, hact.sorted hp hs, hact.withinCap hp hc⟩) (fun _ _ h => h)
      (fun _ _ h => h) h ⟨hp, hsorted, hcap⟩).2
  · exact step_keeps (P := fun s => s.pool.ordered) (fun _ _ hact => hact.ordered) (fun _ _ h => h) (fun _ _ h => h) h hs
  · exact (step_keeps (P := fun s => s.pool.partitioned ∧ s.pool.sorted ∧ s.bounded ∧ s.rangesSound ∧ s.pool.ascending)
      (fun _ _ hact ⟨hp, hsorted, hb, hr, hs⟩ => ⟨hact.partitioned hp, hact.sorted hp hsorted, hact.bounded hb,
        hact.rangesSound hp hb hr, hact.ascending hp hsorted hb hr hs⟩) (fun _ _ h => h) (fun _ _ h => h) h
      ⟨hp, hsorted, hb, hr, hs⟩).2.2.2.2

end Sys2Proof.Machine
end

section
/-! PROOF. After every step the fault unit has taken every fault raised (R140): a command that hands one over takes what is raised at its end,
and every other leaves the faults handed over as they were. -/

namespace Sys2Proof.Machine
open State

namespace State

variable (s : State)

/-! ### Faults taken at once, and the reports -/

theorem raiseFault_raised (k : FaultKind) (c : Option Cylinder) (x : Option Slot) :
    (s.raiseFault k c x).faults.raised = s.faults.raised := by
  have hreact : (s.raiseFault k c x).faults = (s.takeFault (s.faultNow k c x)).faults := reactUnmasked_faults _ k c
  rw [hreact]
  exact (takeFault_faults s _).1

theorem endPulse_faults (b : Bank) (why : PulseEnd) : (s.endPulse b why).faults = s.faults := by
  unfold endPulse
  split
  · rfl
  · dsimp only
    split
    · rfl
    · exact endOpportunity_faults _ _ _ _ _ _ _

theorem pulseExpiry_faults (b : Bank) : (s.pulseExpiry b).faults = s.faults := by
  unfold pulseExpiry
  split
  · split
    · exact endPulse_faults s b .expiry
    · rfl
  · rfl

theorem peakEdge_faults (b : Bank) : (s.peakEdge b).faults = s.faults := by
  unfold peakEdge
  split <;> rfl

theorem noPeak_raised (b : Bank) (p : RunningPulse) : (s.noPeak b p).faults.raised = s.faults.raised := by
  unfold noPeak
  dsimp only
  split
  · rfl
  · split
    · exact (raiseFault_raised _ _ _ _).trans (raiseFault_raised (s.setBankState b _) _ _ _)
    · exact raiseFault_raised (s.setBankState b _) _ _ _

theorem peakExpiry_raised (b : Bank) : (s.peakExpiry b).faults.raised = s.faults.raised := by
  unfold peakExpiry
  split
  · split
    · split_ifs
      · rfl
      · exact noPeak_raised s b _
      · rfl
    · rfl
  · rfl

theorem assertStage_raised (b : Bank) : (s.assertStage b).faults.raised = s.faults.raised := by
  unfold assertStage
  split
  · rfl
  · dsimp only
    split
    · exact (congrArg FaultUnit.raised (endPulse_faults _ b .stage)).trans (raiseFault_raised (s.setStageLine b true) _ _ _)
    · exact raiseFault_raised (s.setStageLine b true) _ _ _

/-- The start decisions leave no fault untaken (R115, R140). -/
theorem decideNow_raised (b : Bank) : (s.decideNow b).faults.raised = [] := takeRaised_raised _

theorem recoveryExpiry_raised {s : State} (hs : s.faults.raised = []) (b : Bank) : (s.recoveryExpiry b).faults.raised = [] := by
  unfold recoveryExpiry
  split
  · split
    · exact decideNow_raised _ b
    · exact hs
  · exact hs

theorem stallExpiry_faults : s.stallExpiry.faults = s.faults := by
  unfold stallExpiry
  split
  · rfl
  · split
    · unfold enterStopped
      dsimp only
      split
      · rw [clearCarry_faults, leavingSynced_faults]; rfl
      · rfl
    · rfl
  · rfl

/-- A timer that expires leaves no fault untaken. -/
theorem runTimer_raised {s : State} (hs : s.faults.raised = []) (k : Timer) : (s.runTimer k).faults.raised = [] := by
  cases k with
  | peakDeadline b => exact (peakExpiry_raised s b).trans hs
  | pulseEnd b => exact (congrArg FaultUnit.raised (pulseExpiry_faults s b)).trans hs
  | recoveryEnd b => exact recoveryExpiry_raised hs b
  | start b => exact decideNow_raised s b
  | stall => exact (congrArg FaultUnit.raised (stallExpiry_faults s)).trans hs

theorem camEdge_raised : s.camEdge.faults.raised = s.faults.raised := by
  unfold camEdge
  dsimp only
  split
  · rfl
  · rfl
  · split_ifs <;> rfl
  · unfold classifyCam
    dsimp only
    split_ifs
    · rfl
    · rfl
    · exact raiseFault_raised s .camFault none none

/-- A tooth takes every fault raised at it (R140). -/
theorem crankEdge_raised {s : State} (hs : s.faults.raised = []) (o : List EdgeTurn) : (s.crankEdge o).faults.raised = [] := by
  unfold crankEdge
  split
  · exact hs
  · split
    · exact takeAdvance_raised _ _ _
    · dsimp only
      split
      · exact hs
      · exact takeAdvance_raised _ _ _

/-! ### The placement unit -/

theorem refuseTake_faults (o : Owner) (command : StagedCommand) (slot : Option Byte) (tag : Byte) (reason : Reason)
    (flags : ClampFlags) (blocking : Option Slot) :
    (s.refuseTake o command slot tag reason flags blocking).faults = s.faults := by
  unfold refuseTake
  rw [append_faults]
  split <;> rfl

theorem applyPlan_faults (q : PlanInput) (marks : List Mark) (d : Nat) (tag : Byte) (carried : Bool) (repeats : Nat)
    (report : Bool) : (s.applyPlan q marks d tag carried repeats report).1.faults = s.faults := by
  refine Eq.trans ?_ (displaceMarked_faults s marks)
  cases hfree : (s.displaceMarked marks).pool.free with
  | nil =>
    rw [applyPlan]
    dsimp only
    split
    · rfl
    · next hk => rw [hfree] at hk; cases hk
  | cons k rest =>
    rw [applyPlan_of_free hfree]
    dsimp only
    split <;> rfl

theorem raiseFlagIf_faults (b : Bool) (l : Link) (f : Flag) : (if b = true then s.raiseFlag l f else s).faults = s.faults := by
  split <;> rfl

theorem applyPlace_faults (o : Owner) (r : PlaceRequest) : (s.applyPlace o r).faults = s.faults := by
  unfold applyPlace
  split
  · exact refuseTake_faults _ _ _ _ _ _ _ _
  · dsimp only
    split
    · exact refuseTake_faults _ _ _ _ _ _ _ _
    · split
      · exact refuseTake_faults _ _ _ _ _ _ _ _
      · split
        · exact refuseTake_faults _ _ _ _ _ _ _ _
        · split
          · exact refuseTake_faults _ _ _ _ _ _ _ _
          · split
            · rw [append_faults, raiseFlagIf_faults, applyPlan_faults]
            · rw [raiseFlagIf_faults, applyPlan_faults]

theorem applyAmend_faults (o : Owner) (a : AmendRequest) : (s.applyAmend o a).faults = s.faults := by
  unfold applyAmend
  dsimp only
  split
  · exact refuseTake_faults _ _ _ _ _ _ _ _
  · split
    · exact refuseTake_faults _ _ _ _ _ _ _ _
    · split
      · exact refuseTake_faults _ _ _ _ _ _ _ _
      · split
        · exact refuseTake_faults _ _ _ _ _ _ _ _
        · split
          · exact refuseTake_faults _ _ _ _ _ _ _ _
          · rw [append_faults, raiseFlagIf_faults, replaceAmended_registers, setPool_faults, displaceMarked_faults]

theorem applyWithdraw_faults (o : Owner) (x : WithdrawRequest) : (s.applyWithdraw o x).faults = s.faults := by
  unfold applyWithdraw
  split
  · exact refuseTake_faults _ _ _ _ _ _ _ _
  · split
    · exact append_faults _ _ _
    · exact refuseTake_faults _ _ _ _ _ _ _ _

theorem take_faults : s.take.faults = s.faults := by
  unfold take
  split
  · next o run x _ =>
    cases x with
    | place r => exact applyPlace_faults (s.removeHead o run) o r
    | amend a => exact applyAmend_faults (s.removeHead o run) o a
    | withdraw x => exact applyWithdraw_faults (s.removeHead o run) o x
  · rfl

theorem takeOf_faults (isKind : Staged → Bool) : (s.takeOf isKind).faults = s.faults := by
  unfold takeOf
  split
  · split
    · exact take_faults s
    · rfl
  · rfl

/-! ### What frames carry -/

theorem popLog_faults (l : Link) : (s.popLog l).1.faults = s.faults := by
  unfold popLog
  split <;> rfl

theorem resetRequestLink_faults (o : Owner) : (s.resetRequestLink o).faults = s.faults := by
  have hrecords (u : State) : (u.resetRecords o).faults = u.faults := by simp [resetRecords]
  unfold resetRequestLink
  dsimp only
  split
  · rw [clearCarry_faults, hrecords]; rfl
  · rw [hrecords]; rfl

theorem portReset_faults (l : Link) : (s.portReset l).1.faults = s.faults := by
  unfold portReset
  split
  · exact resetRequestLink_faults s _
  · rfl

theorem resetPort_faults (target : Byte) : (s.resetPort target).1.faults = s.faults := by
  unfold resetPort
  split
  · rfl
  · exact resetRequestLink_faults s _

theorem clearPort_faults (o : Owner) : (s.clearPort o).faults = s.faults := rfl

theorem clearLink_faults (l : Link) : (s.clearLink l).faults = s.faults := rfl

theorem softResetAll_faults : s.softResetAll.faults = s.faults := by
  unfold softResetAll
  dsimp only
  rw [clearCarry_faults, mapRecords_faults, freeSlots_faults, setMarks_faults, clearLink_faults, clearLink_faults, clearLink_faults,
    clearPort_faults, clearPort_faults]

theorem setMark_faults (l : Link) (mask : Byte) (offset : Word16) (mode : Byte) : (s.setMark l mask offset mode).1.faults = s.faults := by
  unfold setMark
  split
  · rfl
  · split
    · rfl
    · split <;> rfl

theorem clearMark_faults (l : Link) (unit : Byte) : (s.clearMark l unit).1.faults = s.faults := by
  unfold clearMark
  split
  · rfl
  · split
    · rfl
    · split <;> rfl

theorem onRequestLink_faults (l : Link) {act : Owner → Answer} (h : ∀ o, (act o).1.faults = s.faults) :
    (s.onRequestLink l act).1.faults = s.faults := by
  unfold onRequestLink
  split
  · exact h _
  · rfl

theorem setPortState_faults (o : Owner) (state watermark : Byte) : (s.setPortState o state watermark).1.faults = s.faults := by
  unfold setPortState
  split
  · rfl
  · split <;> rfl

theorem intake_faults (o : Owner) (x : Staged) : (s.intake o x).1.faults = s.faults := by
  unfold intake
  split
  · rfl
  · split <;> rfl

theorem setLimit_faults (item : Byte) (value : Word16) : (s.setLimit item value).1.faults = s.faults := by
  unfold setLimit
  split <;> rfl

theorem cutPulse_faults (mask : Byte) (b : Bank) : (s.cutPulse mask b).1.faults = s.faults := by
  unfold cutPulse
  split
  · split
    · exact endPulse_faults s b .cut
    · rfl
  · rfl

theorem cutBank_faults (mask : Byte) (b : Bank) : (s.cutBank mask b).1.faults = s.faults := by
  have hfold (ks : List Slot) (u : State) : (ks.foldl (fun s k => s.suppressReleased k .cut) u).faults = u.faults :=
    foldl_keeps _ (·.faults) (fun s k => suppressReleased_faults s k .cut) ks u
  exact (hfold _ _).trans (cutPulse_faults s mask b)

theorem cutNow_faults (mask : Byte) : (s.cutNow mask).1.faults = s.faults :=
  (cutBank_faults _ mask .bankB).trans (cutBank_faults (s.setLimits { s.limits with enables := s.limits.enables &&& ~~~mask }) mask .bankA)

theorem withdrawAny_faults (slot : Byte) : (s.withdrawAny slot).1.faults = s.faults := by
  unfold withdrawAny
  split
  · rfl
  · split
    · rfl
    · split
      · rfl
      · exact reportDisplaced_faults _ _ _

theorem setFaultMask_raised (written : Word16) : (s.setFaultMask written).1.faults.raised = s.faults.raised := by
  have hwatch (u : State) (before : Bool) : (u.unmaskInjectorWatch before).faults = u.faults := by
    unfold unmaskInjectorWatch
    split
    · exact foldl_keeps _ (·.faults) (fun s c => disableCylinder_faults s c) _ u
    · rfl
  have hover (u : State) (before : Bool) : (u.unmaskOverspeed before).faults = u.faults := by
    unfold unmaskOverspeed
    split
    · exact overspeedSweep_faults u
    · rfl
  refine (congrArg FaultUnit.raised ((hwatch _ _).trans (hover _ _))).trans ?_
  rfl

theorem configWrite_faults (item : Byte) (value : Data) : (s.configWrite item value).1.faults = s.faults := by
  unfold configWrite
  split
  · rfl
  · split <;> rfl

theorem commitConfig_faults : s.commitConfig.1.faults = s.faults := by
  unfold commitConfig
  split
  · rfl
  · dsimp only
    split <;> rfl

/-- A frame leaves the faults handed over as its command does. -/
theorem onFrame_raised {s : State} {t : Time} (hs : (s.arrive t).faults.raised = []) (l : Link) (n : CommandName)
    {act : State → State × Status × Data} (h : ∀ u, (act u).1.faults.raised = u.faults.raised) :
    (s.onFrame t l n act).faults.raised = [] := by
  unfold onFrame
  dsimp only
  split
  · exact hs
  · split
    · rw [respond_faults]
      exact (h _).trans hs
    · exact hs

/-- What leaves the fault unit leaves the faults handed over. -/
theorem onFrame_raised_of_faults {s : State} {t : Time} (hs : (s.arrive t).faults.raised = []) (l : Link) (n : CommandName)
    {act : State → State × Status × Data} (h : ∀ u, (act u).1.faults = u.faults) :
    (s.onFrame t l n act).faults.raised = [] :=
  onFrame_raised hs l n fun u => congrArg FaultUnit.raised (h u)

/-- On its way to a time the part leaves no fault untaken. -/
theorem arrive_raised {s : State} (hs : s.faults.raised = []) (t : Time) : (s.arrive t).faults.raised = [] := by
  have hwithin (n : Nat) (u : State) (hu : u.faults.raised = []) : (arriveWithin n t u).faults.raised = [] := by
    induction n generalizing u with
    | zero => exact hu
    | succ n ih =>
      unfold arriveWithin
      split
      · split
        · exact ih _ (runTimer_raised (by exact hu) _)
        · exact hu
      · exact hu
  exact hwithin _ s hs

end State

/-- A command that a frame carries leaves no fault untaken. -/
theorem runCarried_raised {c : Instr} {t : Time} (hcarried : (writePayload c).isSome = true) (htaken : c.takenAt = some t)
    {s u : State} (hs : s.faults.raised = []) (h : runCarried c s = .next u) : u.faults.raised = [] := by
  have ha := arrive_raised hs t
  cases c
  case readStatus =>
    cases htaken; cases h
    exact onFrame_raised_of_faults ha _ _ fun u => by rw [readStatus_state]
  case readRecord =>
    cases htaken; cases h
    exact onFrame_raised_of_faults ha _ _ fun u => by rw [readRecord_state]
  case readCylinder =>
    cases htaken; cases h
    exact onFrame_raised_of_faults ha _ _ fun u => by rw [readCylinder_state]
  case configRead =>
    cases htaken; cases h
    exact onFrame_raised_of_faults ha _ _ fun u => by rw [configRead_state]
  case popLog => cases htaken; cases h; exact onFrame_raised_of_faults ha _ _ fun u => popLog_faults u _
  case portReset => cases htaken; cases h; exact onFrame_raised_of_faults ha _ _ fun u => portReset_faults u _
  case setMark => cases htaken; cases h; exact onFrame_raised_of_faults ha _ _ fun u => setMark_faults u _ _ _ _
  case clearMark => cases htaken; cases h; exact onFrame_raised_of_faults ha _ _ fun u => clearMark_faults u _ _
  case setPortState =>
    cases htaken; cases h
    exact onFrame_raised_of_faults ha _ _ fun u => onRequestLink_faults u _ fun o => setPortState_faults u o _ _
  case clearStaging =>
    cases htaken; cases h
    exact onFrame_raised_of_faults ha _ _ fun u => onRequestLink_faults u _ fun o => rfl
  case place =>
    cases htaken; cases h
    exact onFrame_raised_of_faults ha _ _ fun u => onRequestLink_faults u _ fun o => intake_faults u o _
  case amend =>
    cases htaken; cases h
    exact onFrame_raised_of_faults ha _ _ fun u => onRequestLink_faults u _ fun o => intake_faults u o _
  case withdraw =>
    cases htaken; cases h
    exact onFrame_raised_of_faults ha _ _ fun u => onRequestLink_faults u _ fun o => intake_faults u o _
  case setLimit => cases htaken; cases h; exact onFrame_raised_of_faults ha _ _ fun u => setLimit_faults u _ _
  case cutNow => cases htaken; cases h; exact onFrame_raised_of_faults ha _ _ fun u => cutNow_faults u _
  case withdrawAny => cases htaken; cases h; exact onFrame_raised_of_faults ha _ _ fun u => withdrawAny_faults u _
  case setFaultMask => cases htaken; cases h; exact onFrame_raised ha _ _ fun u => setFaultMask_raised u _
  case softReset => cases htaken; cases h; exact onFrame_raised_of_faults ha _ _ fun u => softResetAll_faults u
  case resetPort => cases htaken; cases h; exact onFrame_raised_of_faults ha _ _ fun u => resetPort_faults u _
  case configWrite => cases htaken; cases h; exact onFrame_raised_of_faults ha _ _ fun u => configWrite_faults u _ _
  case commitConfig => cases htaken; cases h; exact onFrame_raised_of_faults ha _ _ fun u => commitConfig_faults u
  case nop | readTime | readAngle | ackEvents | setNoticeEnables | setEnableMask | readFaults | ackFaults | readCapture
    | clearCapture | scrubPool => cases htaken; cases h; exact onFrame_raised ha _ _ fun u => rfl
  all_goals cases hcarried

/-- Every command leaves no fault untaken. -/
theorem exec_raised {c : Instr} {s u : State} (hs : s.faults.raised = []) (h : exec c s = .next u) : u.faults.raised = [] := by
  by_cases hcarried : (writePayload c).isSome = true
  · obtain ⟨t, htaken⟩ : ∃ t, c.takenAt = some t := by
      cases c
      case powerOnReset => cases hcarried
      all_goals exact ⟨_, rfl⟩
    exact runCarried_raised hcarried htaken hs (exec_eq_runCarried hcarried s ▸ h)
  · cases c
    case powerOnReset lines =>
      have hstage (v : State) (b : Bank) (level : Bool) : (if level then v.assertStage b else v).faults.raised = v.faults.raised := by
        split
        · exact assertStage_raised v b
        · rfl
      cases h
      exact (hstage _ .bankB _).trans (hstage (s.poweredOn lines) .bankA _)
    case refusedFrame t l f =>
      have hexec : execRefusedFrame t l f s = .next u := h
      cases hf : frameRefusal f with
      | none =>
        obtain ⟨hcarried, htaken⟩ := readFrame_carried (t := t) (l := l) hf
        rw [execRefusedFrame_passed t l f s hf] at hexec
        exact runCarried_raised hcarried htaken hs hexec
      | some x =>
        unfold execRefusedFrame at hexec
        rw [hf] at hexec
        dsimp only at hexec
        split at hexec
        all_goals
          cases hexec
          exact arrive_raised hs t
    case crankEdge t order => cases h; exact crankEdge_raised (arrive_raised hs t) order
    case camEdge t => cases h; exact (camEdge_raised _).trans (arrive_raised hs t)
    case stallExpiry t => cases h; exact runTimer_raised (arrive_raised hs t) .stall
    case peakEdge t b => cases h; exact (congrArg FaultUnit.raised (peakEdge_faults _ b)).trans (arrive_raised hs t)
    case stageFaultAssertion t b => cases h; exact (assertStage_raised _ b).trans (arrive_raised hs t)
    case stageFaultNegation t b => cases h; exact arrive_raised hs t
    case startDecision t b => cases h; exact decideNow_raised _ b
    case endOfPulse t b => cases h; exact runTimer_raised (arrive_raised hs t) (.pulseEnd b)
    case peakDeadline t b => cases h; exact runTimer_raised (arrive_raised hs t) (.peakDeadline b)
    case recoveryEnd t b => cases h; exact runTimer_raised (arrive_raised hs t) (.recoveryEnd b)
    case takePlace t | takeAmend t | takeWithdraw t =>
      cases h
      exact (congrArg FaultUnit.raised (takeOf_faults _ _)).trans (arrive_raised hs t)
    all_goals exact absurd rfl hcarried

/-- Every step leaves no fault untaken (R140). -/
theorem step_raised {s u : State} (hs : s.faults.raised = []) (h : step s = .next u) : u.faults.raised = [] := by
  unfold step at h
  split at h
  · exact exec_raised (by exact hs) h
  · cases h
    unfold idle
    split
    · exact runTimer_raised hs _
    · split
      · exact (congrArg FaultUnit.raised (take_faults s)).trans hs
      · exact hs

end Sys2Proof.Machine
end

section
/-! PROOF. The placed durations of every cylinder list fit the greatest budget (R90, R91, R125). -/

namespace Sys2Proof.Machine
open State

/-! ### One record of a list -/

/-- A record that stands in a list splits it; with no slot twice, the rest are the records of other slots. -/
theorem split_at_slot {l : List Record} {r : Record} (h : (l.map fun x => x.slot).Nodup) (hr : r ∈ l) :
    ∃ before rest, l = before ++ r :: rest ∧ (l.filter fun x => x.slot != r.slot) = before ++ rest
      ∧ ∀ f : Record → Record, (l.map fun x => if x.slot = r.slot then f x else x) = before ++ f r :: rest := by
  obtain ⟨before, rest, rfl⟩ := List.append_of_mem hr
  rw [List.map_append, List.map_cons, List.nodup_middle, List.nodup_cons, ← List.map_append] at h
  have hne : ∀ x ∈ before ++ rest, x.slot ≠ r.slot := fun x hx heq => h.1 (heq ▸ List.mem_map_of_mem hx)
  have hb : ∀ x ∈ before, x.slot ≠ r.slot := fun x hx => hne x (List.mem_append_left _ hx)
  have hafter : ∀ x ∈ rest, x.slot ≠ r.slot := fun x hx => hne x (List.mem_append_right _ hx)
  refine ⟨before, rest, rfl, ?_, fun f => ?_⟩
  · have hone : (r.slot != r.slot) = false := by simp
    rw [List.filter_append, List.filter_cons, hone, List.filter_eq_self.mpr fun x hx => by simpa using hb x hx,
      List.filter_eq_self.mpr fun x hx => by simpa using hafter x hx]
    rfl
  · have hsame {xs : List Record} (hxs : ∀ x ∈ xs, x.slot ≠ r.slot) : (xs.map fun x => if x.slot = r.slot then f x else x) = xs :=
      (List.map_congr_left fun x hx => if_neg (hxs x hx)).trans (List.map_id xs)
    rw [List.map_append, List.map_cons, hsame hb, hsame hafter, if_pos rfl]

/-- What stands in no list of a slot is left by a change at that slot. -/
theorem map_at_slot_of_absent {l : List Record} {k : Slot} (h : ∀ x ∈ l, x.slot ≠ k) (f : Record → Record) :
    (l.map fun x => if x.slot = k then f x else x) = l :=
  (List.map_congr_left fun x hx => if_neg (h x hx)).trans (List.map_id l)

/-- After an amendment the list of the record holds it as amended, with the others; every other list is as it was. -/
theorem replaceAmended_perm {s : State} (hp : s.pool.partitioned) {r : Record} (hfind : s.pool.find r.slot = some r) (offset : Int)
    (d : Nat) (c : Cylinder) :
    (r ∈ s.pool.lists.get c ∧ ((s.replaceAmended r offset d).pool.lists.get c).Perm
        (s.amended r offset d :: (s.pool.lists.get c).filter fun x => x.slot != r.slot))
      ∨ (s.replaceAmended r offset d).pool.lists.get c = s.pool.lists.get c := by
  have hslots := Pool.list_slots_nodup (Pool.partitioned_slots_nodup hp) c
  by_cases hr : r ∈ s.pool.lists.get c
  · refine .inl ⟨hr, ?_⟩
    obtain ⟨ho, heq⟩ | ⟨-, heq⟩ := replaceAmended_lists s r offset d c <;> rw [heq]
    · obtain ⟨before, rest, -, hfilter, hmap⟩ := split_at_slot hslots hr
      have hamended : s.amended r offset d = withDuration d r := by rw [amended, if_pos ho, withDuration]
      rw [hmap, hfilter, hamended]
      exact List.perm_middle
    · have hany : ((s.pool.lists.get c).any fun x => x.slot == (s.amended r offset d).slot) = true :=
        List.any_eq_true.mpr ⟨r, hr, by rw [amended_slot]; exact beq_self_eq_true _⟩
      rw [Pool.movedList, if_pos hany, amended_slot]
      exact Pool.insertByOffset_perm _ _
  · refine .inr ?_
    have habsent : ∀ x ∈ s.pool.lists.get c, x.slot ≠ r.slot := fun x hx hslot =>
      hr (eq_of_find hp hfind ((Pool.mem_records _ _).mpr ⟨c, hx⟩) hslot ▸ hx)
    obtain ⟨-, heq⟩ | ⟨-, heq⟩ := replaceAmended_lists s r offset d c <;> rw [heq]
    · exact map_at_slot_of_absent habsent _
    · have hany : ¬ ((s.pool.lists.get c).any fun x => x.slot == (s.amended r offset d).slot) = true := by
        rw [amended_slot]
        simpa using habsent
      rw [Pool.movedList, if_neg hany]

/-! ### Durations (R90, R91) -/

theorem sumDurations_perm {l m : List Record} (h : l.Perm m) : sumDurations l = sumDurations m := (h.map _).sum_eq

theorem sumDurations_cons (r : Record) (l : List Record) : sumDurations (r :: l) = r.duration + sumDurations l := by
  simp [sumDurations]

theorem amended_duration (s : State) (r : Record) (offset : Int) (d : Nat) : (s.amended r offset d).duration = d := by
  unfold amended
  split <;> rfl

/-- What an accepted plan leaves in the request's list, without the record it leaves out, fits the budget with the request (R90, R91). -/
theorem displaceMarked_fits {s : State} {q : PlanInput} {marks : List Mark} {d : Nat} {bc : Bool}
    (hplan : s.planFit q = .accepted marks d bc) :
    sumDurations (((s.displaceMarked marks).pool.lists.get q.cylinder).filter fun r => some r.slot != q.exclude) + d
      ≤ s.limits.budget := by
  obtain ⟨own, capacity, budget, left, hsteps⟩ := planFit_accepted hplan
  obtain ⟨hown, hleft, -⟩ := hsteps.left_eq
  have hrecords : marks.map (fun m => m.record) = s.conflictSet q ++ capacity ++ budget := by
    rw [hsteps.marks_eq]
    simp [Function.comp_def]
  have hlist : (((s.displaceMarked marks).pool.lists.get q.cylinder).filter fun r => some r.slot != q.exclude) = left := by
    rw [hleft, hown, ← leftOf_append, ← leftOf_append, leftOf_listWithout, displaceMarked_lists, List.filter_filter, ← List.append_assoc,
      ← hrecords]
    refine List.filter_congr fun r _ => ?_
    rw [any_marks]
  rw [hlist]
  rcases hsteps.fits with ⟨-, rfl, hfits⟩ | ⟨-, rfl, -, -, -, hroom⟩ <;> omega

section change
variable {w : Bool} {s u : State}

theorem Change.budgetSound (h : Change w s u) (hs : s.budgetSound) : u.budgetSound := fun c hc =>
  (h.follows.sum_le (m := fun r => r.duration) fun _ _ _ hxy => hxy.keeps.duration.le).trans (hs c hc)

theorem Path.budgetSound (h : Path w s u) : s.budgetSound → u.budgetSound := h.keeps fun _ _ hc => hc.budgetSound

theorem Act.budgetSound (h : Act s u) (hp : s.pool.partitioned) (hsorted : s.pool.sorted) (hb : s.bounded) (hs : s.budgetSound) :
    u.budgetSound := by
  obtain ⟨-, -, -, -, -, -, -, hmax, -⟩ := hb
  cases h with
  | calm h => exact h.budgetSound hs
  | whole h => exact h.budgetSound hs
  | place q marks d bc tag carried repeats report k rest hplan hsound hexclude =>
    have hdisplaced := (displaceMarked_path true marks s (planFit_idle hplan)).budgetSound hs
    have hfits := displaceMarked_fits hplan
    have hall : (fun r : Record => some r.slot != q.exclude) = fun _ => true := by
      funext r
      rw [hexclude]
      rfl
    rw [hall, List.filter_true] at hfits
    intro c hc
    rw [filled_lists]
    split
    · next heq =>
      rw [sumDurations_perm (Pool.insertByOffset_perm _ _), sumDurations_cons, heq]
      have hduration : ((s.displaceMarked marks).filledRecord k q d tag carried repeats report).duration = d := rfl
      omega
    · exact hdisplaced c hc
  | amend r q marks d bc hfind hpending hplan hsound hexclude hcylinder =>
    have hpath := displaceMarked_path true marks s (planFit_idle hplan)
    have hdisplaced := hpath.budgetSound hs
    have hfits := displaceMarked_fits hplan
    have hothers : (fun x : Record => some x.slot != q.exclude) = fun x => x.slot != r.slot := by
      funext x
      rw [hexclude]
      rfl
    rw [hothers] at hfits
    intro c hc
    obtain ⟨hr, hperm⟩ | heq := replaceAmended_perm (hpath.partitioned hp)
      (by rw [displaceMarked_find_excluded hplan hexclude]; exact hfind) q.offset d c
    · have hown : c = q.cylinder := by rw [hcylinder, hpath.sorted hsorted c hc r hr]
      rw [sumDurations_perm hperm, sumDurations_cons, amended_duration, hown]
      omega
    · rw [heq]
      exact hdisplaced c hc
  | reset lines =>
    intro c _
    rw [lists_poweredOn]
    exact Nat.zero_le _
  | config | commit => exact hs

end change

end Sys2Proof.Machine
end

section
/-! PROOF. The running pulses end their released duration after their start, and that time is not passed while the part stays at one time
(R115, R119). -/

namespace Sys2Proof.Machine
open State

/-- Every FIRING record of a pool was FIRING in another, from the same actual start for the same duration. -/
def Pool.FiringFrom (p q : Pool) : Prop :=
  ∀ k r f a, q.find k = some r → r.phase = .firing f a →
    ∃ y g, p.find k = some y ∧ y.phase = .firing g a ∧ g.duration = f.duration

theorem Pool.FiringFrom.refl (p : Pool) : p.FiringFrom p := fun _ r f _ hr hphase => ⟨r, f, hr, hphase, rfl⟩

/-- With one slot changed and no FIRING record there, every FIRING record is as it was. -/
theorem Pool.firingFrom_of_find {p q : Pool} {k : Slot} {x : Option Record} (hfind : ∀ j, q.find j = if j = k then x else p.find j)
    (hx : ∀ r ∈ x, r.isFiring = false) : p.FiringFrom q := fun j r f a hr hphase => by
  rw [hfind] at hr
  split at hr
  · have hnot := hx r hr
    rw [Record.isFiring, hphase] at hnot
    cases hnot
  · exact ⟨r, f, hr, hphase, rfl⟩

theorem Record.isFiring_of_pending {r : Record} (h : r.phase = .pending) : r.isFiring = false := by
  rw [isFiring, h]

namespace State

theorem pulseTimed_iff {s : State} {b : Bank} : s.pulseTimed b = true ↔ ∀ p r f a, s.runningPulse b = some p →
    s.pool.find p.slot = some r → r.phase = .firing f a →
    p.ends = a + BitVec.ofNat 32 f.duration ∧ (s.timeBase - a).toNat ≤ f.duration := by
  unfold pulseTimed
  cases hp : s.runningPulse b with
  | none => exact ⟨fun _ p r f a h => (by cases h), fun _ => rfl⟩
  | some p =>
    dsimp only
    cases hr : s.pool.find p.slot with
    | none =>
      refine ⟨fun _ q r f a hq hfind => ?_, fun _ => rfl⟩
      cases hq
      cases hr.symm.trans hfind
    | some r =>
      dsimp only
      cases hphase : r.phase with
      | firing f a =>
        rw [Bool.and_eq_true, beq_iff_eq, decide_eq_true_iff]
        refine ⟨fun h q y g c hq hfind hc => ?_, fun h => h p r f a rfl hr hphase⟩
        cases hq
        cases hr.symm.trans hfind
        cases hphase.symm.trans hc
        exact h
      | pending | released =>
        refine ⟨fun _ q y g c hq hfind hc => ?_, fun _ => rfl⟩
        cases hq
        cases hr.symm.trans hfind
        cases hphase.symm.trans hc

/-- Every running pulse of a bank runs for the same slot to the same end as before. -/
def PulseFrom (s u : State) (b : Bank) : Prop :=
  ∀ p, u.runningPulse b = some p → ∃ x, s.runningPulse b = some x ∧ x.slot = p.slot ∧ x.ends = p.ends

theorem pulseFrom_of_state {s u : State} {b : Bank} (h : (u.drivers.get b).state = (s.drivers.get b).state) : s.PulseFrom u b :=
  fun p hp => ⟨p, by rw [← hp, runningPulse, runningPulse, h], rfl, rfl⟩

/-- A bank that is set to another state has no running pulse but the one it is set to. -/
theorem pulseFrom_setBankState {s : State} {b : Bank} {x : BankState}
    (hx : ∀ p, x = .firing p → ∃ y, s.runningPulse b = some y ∧ y.slot = p.slot ∧ y.ends = p.ends) (b' : Bank) :
    s.PulseFrom (s.setBankState b x) b' := by
  by_cases hb : b' = b
  · subst hb
    intro p hp
    have hstate : ((s.setBankState b' x).drivers.get b').state = x := by rw [setBankState_get, if_pos rfl]
    rw [runningPulse, hstate] at hp
    cases x with
    | firing y => exact hx p (by rw [Option.some.inj hp])
    | idle | recovery => cases hp
  · exact pulseFrom_of_state (by rw [setBankState_get, if_neg hb])

/-- What keeps time, running pulses and FIRING records keeps the pulses timed. -/
theorem pulseTimed_of {s u : State} {b : Bank} (h : s.pulseTimed b = true) (htime : u.timeBase = s.timeBase)
    (hpulse : s.PulseFrom u b) (hfiring : s.pool.FiringFrom u.pool) : u.pulseTimed b = true := by
  rw [pulseTimed_iff] at h ⊢
  intro p r f a hp hr hphase
  obtain ⟨x, hx, hslot, hends⟩ := hpulse p hp
  obtain ⟨y, g, hy, hyphase, hduration⟩ := hfiring p.slot r f a hr hphase
  have hold := h x y g a hx (hslot ▸ hy) hyphase
  rwa [hends, hduration, ← htime] at hold

/-- The record of a running pulse is FIRING. -/
theorem firing_of_runningPulse {s : State} (hs : s.timelineSound) {b : Bank} {p : RunningPulse} (hp : s.runningPulse b = some p) :
    ∃ r f a, s.pool.find p.slot = some r ∧ r.phase = .firing f a := by
  obtain ⟨c, hc, -⟩ := (((timelineSound_iff s).mp hs).2.runs b p.slot).mp (runsOn_eq_some.mpr ⟨p, hp, rfl⟩)
  obtain ⟨r, hr, hfiring, -⟩ := Pool.firingAt_eq_some.mp hc
  cases hphase : r.phase with
  | firing f a => exact ⟨r, f, a, hr, hphase⟩
  | pending | released => simp [Record.isFiring, hphase] at hfiring

theorem closeBank_state (s : State) (b : Bank) (p : RunningPulse) (r : Record) (why : PulseEnd) (b' : Bank) :
    ((s.closeBank b p r why).drivers.get b').state
      = ((s.setBankState b (.recovery (after s.timeBase s.engine.config.bankRecovery))).drivers.get b').state := by
  have hdrivers := retire_drivers (((s.setBankState b (.recovery (after s.timeBase s.engine.config.bankRecovery))).negateFire
    r.cylinder).setCylinder r.cylinder (s.closePulse p r why (passedBy s.timeBase (s.actualStart r)))) p.slot r
  rw [closeBank, hdrivers, dropWaiting_state]
  cases b' <;> rfl

theorem startPulse_state (s : State) (b : Bank) (r : Record) (f : FiringFields) (o : StartOutcome) (b' : Bank) (h : b' ≠ b) :
    ((s.startPulse b r f o).drivers.get b').state = (s.drivers.get b').state := by
  rw [startPulse, setBankState_get, if_neg h]
  exact (by cases b' <;> rfl : _ = ((s.dropWaiting r.slot).drivers.get b').state).trans (dropWaiting_state s r.slot b')

/-- A pulse that starts is timed, and so is the other bank's. -/
theorem startPulse_pulseTimed {s : State} (hs : s.timelineSound) {b : Bank} {r : Record} {f : FiringFields} {e : WaitEntry}
    {planned : Time} (hdue : s.dueHead b = some (r, f, e, planned)) (o : StartOutcome) {b' : Bank} (h : s.pulseTimed b' = true) :
    (s.startPulse b r f o).pulseTimed b' = true := by
  obtain ⟨-, -, hfind, hphase, hslot, -⟩ := dueHead_some hdue
  rw [← hslot] at hfind
  have hfind' (j : Slot) : (s.startPulse b r f o).pool.find j
      = if j = r.slot then (s.pool.find r.slot).map fun x => { x with phase := .firing f s.timeBase } else s.pool.find j :=
    Pool.find_update s.pool r.slot j (f := fun x => { x with phase := .firing f s.timeBase }) fun _ => rfl
  rw [pulseTimed_iff] at h ⊢
  intro p y g a hp hy hyphase
  rw [hfind'] at hy
  by_cases hb : b' = b
  · subst hb
    have hstate : (s.startPulse b' r f o).runningPulse b' = some
        { slot := r.slot, ends := after s.timeBase f.duration, cycle := s.clock.cycle, outcome := o, peakSeen := false,
          noRise := false, deadline := some (after s.timeBase s.engine.config.peakDeadline) } := by
      rw [startPulse, runningPulse, setBankState_get, if_pos rfl]
      rfl
    cases hstate.symm.trans hp
    rw [if_pos rfl, hfind] at hy
    cases hy
    cases hyphase
    refine ⟨rfl, ?_⟩
    have hself : (s.startPulse b' r f o).timeBase - s.timeBase = 0 := BitVec.sub_self s.timeBase
    rw [hself]
    exact Nat.zero_le _
  · obtain ⟨x, hx, hxslot, hends⟩ := pulseFrom_of_state (s := s) (startPulse_state s b r f o b' hb) p hp
    have hne : p.slot ≠ r.slot := fun heq => by
      obtain ⟨z, g', a', hz, hzphase⟩ := firing_of_runningPulse hs hx
      rw [hxslot, heq, hfind] at hz
      cases hz
      rw [hphase] at hzphase
      cases hzphase
    rw [if_neg hne] at hy
    rw [← hends]
    exact h x y g a hx (hxslot ▸ hy) hyphase

end State

theorem Record.not_firing_of_released {r : Record} {f : FiringFields} {t : Time} (h : r.phase = .released f t) : r.isFiring = false := by
  rw [isFiring, h]

theorem Change.pulseTimed {w : Bool} {s u : State} (h : Change w s u) (hs : s.timelineSound) {b : Bank}
    (hb : s.pulseTimed b = true) : u.pulseTimed b = true := by
  cases h with
  | free k =>
    exact pulseTimed_of hb rfl (pulseFrom_of_state (dropWaiting_state s k b))
      (Pool.firingFrom_of_find (fun j => Pool.find_freeRecord s.pool k j) (by simp))
  | returned k f hidle hf =>
    refine pulseTimed_of hb rfl (pulseFrom_of_state (dropWaiting_state s k b))
      (Pool.firingFrom_of_find (fun j => Pool.find_update s.pool k j fun r => (hf r).1.slot) fun r hr => ?_)
    obtain ⟨x, -, rfl⟩ := Option.map_eq_some_iff.mp hr
    exact Record.isFiring_of_pending (hf x).2
  | pulseEnd d p r why =>
    obtain ⟨x, hx, hfind⟩ := retire_find (((s.setBankState d (.recovery (after s.timeBase s.engine.config.bankRecovery))).negateFire
      r.cylinder).setCylinder r.cylinder (s.closePulse p r why (passedBy s.timeBase (s.actualStart r)))) p.slot r
    refine pulseTimed_of hb (closeBank_timeBase _ _ _ _ _) (fun y hy => ?_)
      (Pool.firingFrom_of_find hfind fun y hy => Record.isFiring_of_pending (hx y hy))
    exact pulseFrom_setBankState (x := .recovery (after s.timeBase s.engine.config.bankRecovery)) (fun _ h => by cases h) b y
      (by rw [← hy, runningPulse, runningPulse, closeBank_state])
  | recover d p ends => exact pulseTimed_of hb rfl (pulseFrom_setBankState (fun _ h => by cases h) b) (.refl _)
  | idle d ends => exact pulseTimed_of hb rfl (pulseFrom_setBankState (fun _ h => by cases h) b) (.refl _)
  | pulse d p p' hrun hslot hends =>
    exact pulseTimed_of hb rfl (pulseFrom_setBankState (fun y hy => by cases hy; exact ⟨p, hrun, hslot.symm, hends.symm⟩) b) (.refl _)
  | stageLine d level =>
    refine pulseTimed_of hb rfl (pulseFrom_of_state ?_) (.refl _)
    rw [setStageLine_get]
    split
    · next h => rw [h]
    · rfl
  | start d r f e planned o hdue => exact startPulse_pulseTimed hs hdue o hb
  | release r d shortened new period =>
    refine pulseTimed_of hb rfl (pulseFrom_of_state ?_)
      (Pool.firingFrom_of_find (fun j => Pool.find_update s.pool r.slot j (f := fun x => { x with
        phase := .released { duration := d, shortened := shortened, final := false }
          (plannedStart s.timeBase r.start new period) }) fun _ => rfl) fun x hx => ?_)
    · rw [releaseRecord, joinWaiting_get]
      split
      · next h => rw [h]; rfl
      · rfl
    · obtain ⟨y, -, rfl⟩ := Option.map_eq_some_iff.mp hx
      exact Record.not_firing_of_released rfl
  | replan k r planned late hfind hreleased =>
    refine pulseTimed_of hb rfl (pulseFrom_of_state ?_) (Pool.firingFrom_of_find (fun j => setPlanned_find s k j planned) fun x hx => ?_)
    · rw [reposition, joinWaiting_get]
      split
      · next h => rw [h]; exact dropWaiting_state (s.setPlanned k planned) k _
      · exact dropWaiting_state (s.setPlanned k planned) k b
    · rw [hfind] at hx
      cases hx
      cases hphase : r.phase with
      | released f t => simp [Record.isFiring, hphase]
      | pending | firing => simp [Record.isReleased, hphase] at hreleased
  | quarantine k r =>
    exact pulseTimed_of hb rfl (pulseFrom_of_state rfl) (Pool.firingFrom_of_find (fun j => Pool.find_quarantineRecord s.pool k j) (by simp))
  | final t =>
    refine pulseTimed_of hb rfl (pulseFrom_of_state rfl) (fun k r f a hr hphase => ?_)
    have hmap : (s.mapRecords fun r => if t r then r.markFinal else r).pool.find k
        = (s.pool.find k).map fun r => if t r then r.markFinal else r :=
      Pool.find_mapAll s.pool (fun r => (r.finalIf_keeps t).1.slot) k
    obtain ⟨x, hx, rfl⟩ := Option.map_eq_some_iff.mp (hmap.symm.trans hr)
    split at hphase
    · unfold Record.markFinal at hphase
      cases hxp : x.phase <;> rw [hxp] at hphase <;> dsimp only at hphase
      · rw [hxp] at hphase; cases hphase
      · cases hphase
      · cases hphase
        exact ⟨x, _, hx, hxp, rfl⟩
    · exact ⟨x, f, hx, hphase, rfl⟩
  | _ => exact hb

end Sys2Proof.Machine
end

section
/-! PROOF. The totals of a cylinder (R37, R102, R119), and the ranges that every step keeps (O10). -/

namespace Sys2Proof.Machine
open State

namespace State

/-! ### What is outstanding (R37, R119) -/

/-- The released duration of a sound record is at most its duration. -/
theorem placedSound_releasedDuration {s : State} {r : Record} (h : s.placedSound r) : r.releasedDuration ≤ r.duration := by
  obtain ⟨-, -, -, -, -, hpending | ⟨-, hmost⟩⟩ := h
  · rw [Record.releasedDuration, Record.not_pending hpending]
    exact Nat.zero_le _
  · exact hmost

/-- What a cylinder's records may still drive fits the greatest budget (R37, R90). -/
theorem outstanding_le {s : State} (hr : s.rangesSound) (hb : s.budgetSound) (c : Cylinder) : s.outstanding c ≤ 8000 := by
  obtain ⟨-, -, hrecords, -⟩ := hr
  refine (List.sum_le_sum fun r hr => ?_).trans (hb c (mem_allCylinders c))
  exact placedSound_releasedDuration (hrecords r ((Pool.mem_records _ _).mpr ⟨c, hr⟩))

/-- A record that stands in a list drives no more than is outstanding. -/
theorem releasedDuration_le_outstanding {s : State} {c : Cylinder} {r : Record} (hr : r ∈ s.pool.lists.get c) :
    r.releasedDuration ≤ s.outstanding c :=
  List.single_le_sum (fun _ _ => Nat.zero_le _) _ (List.mem_map_of_mem hr)

theorem outstanding_split {before rest : List Record} (r : Record) :
    ((before ++ r :: rest).map Record.releasedDuration).sum
      = r.releasedDuration + ((before ++ rest).map Record.releasedDuration).sum := by
  simp only [List.map_append, List.map_cons, List.sum_append, List.sum_cons]
  omega

/-- A record found stands in the list of its cylinder. -/
theorem mem_list_of_find {s : State} (hsorted : s.pool.sorted) {k : Slot} {r : Record} (hfind : s.pool.find k = some r) :
    r ∈ s.pool.lists.get r.cylinder := by
  obtain ⟨c, hc⟩ := (Pool.mem_records _ _).mp (Pool.find_some hfind).1
  rwa [← hsorted c (mem_allCylinders c) r hc] at hc

/-- The retirement of a record takes its released duration from what is outstanding. -/
theorem retire_outstanding {s : State} (hp : s.pool.partitioned) {k : Slot} {r : Record} (hk : r.slot = k) {c : Cylinder}
    (hr : r ∈ s.pool.lists.get c) : (s.retire k r).1.outstanding c + r.releasedDuration = s.outstanding c := by
  have hslots := Pool.list_slots_nodup (Pool.partitioned_slots_nodup hp) c
  obtain ⟨before, rest, hlist, hfilter, hmap⟩ := split_at_slot hslots hr
  have hold : s.outstanding c = r.releasedDuration + ((before ++ rest).map Record.releasedDuration).sum := by
    rw [outstanding, hlist, outstanding_split]
  have hupdate (u : State) (f : Record → Record) (hpool : u.pool = s.pool.update k f) (hf : (f r).phase = .pending) :
      u.outstanding c = ((before ++ rest).map Record.releasedDuration).sum := by
    have hzero : (f r).releasedDuration = 0 := by rw [Record.releasedDuration, hf]
    rw [outstanding, hpool, Pool.update_lists, ← hk, hmap, outstanding_split, hzero, Nat.zero_add]
  obtain ⟨-, heq⟩ | ⟨-, -, heq⟩ | ⟨-, -, heq⟩ := retire_cases s k r <;> rw [heq]
  · have hfree : (s.freeSlot k).outstanding c = ((before ++ rest).map Record.releasedDuration).sum := by
      rw [outstanding, freeSlot, setPool_pool, Pool.freeRecord_lists, ← hk, hfilter]
    dsimp only
    omega
  · have := hupdate (s.returnCounted k) (fun r => { r with phase := .pending, repeats := r.repeats - 1 }.rechecked) rfl rfl
    dsimp only
    omega
  · have := hupdate (s.returnPending k) (fun r => { r with phase := .pending }) rfl rfl
    dsimp only
    omega

/-- A release adds its released duration to what is outstanding (R37). -/
theorem releaseRecord_outstanding {s : State} (hp : s.pool.partitioned) {r : Record} (hpending : r.isPending = true) (d : Nat)
    (shortened : Bool) (new period : Nat) {c : Cylinder} (hr : r ∈ s.pool.lists.get c) :
    (s.releaseRecord r d shortened new period).outstanding c = s.outstanding c + d := by
  have hslots := Pool.list_slots_nodup (Pool.partitioned_slots_nodup hp) c
  obtain ⟨before, rest, hlist, -, hmap⟩ := split_at_slot hslots hr
  have hzero : r.releasedDuration = 0 := by rw [Record.releasedDuration, Record.not_pending hpending]
  have hpool : (s.releaseRecord r d shortened new period).pool = s.pool.update r.slot fun x =>
      { x with phase := .released { duration := d, shortened := shortened, final := false } (plannedStart s.timeBase r.start new period) } :=
    rfl
  rw [outstanding, outstanding, hpool, Pool.update_lists, hmap, hlist, outstanding_split, outstanding_split, hzero, Nat.zero_add, Nat.add_comm]
  rfl

end State

section change
variable {w : Bool} {s u : State}

/-- Where the released total of a cylinder is as it was, no more is outstanding than before. -/
theorem Change.outstanding_le (h : Change w s u) (hp : s.pool.partitioned) (hsorted : s.pool.sorted) {c : Cylinder}
    (hreleased : (u.table.get c).released = (s.table.get c).released) : u.outstanding c ≤ s.outstanding c := by
  have hsound : Pool.Follows (fun r r' => r.GoesOn s u r' ∧ (r.cylinder = c → r'.releasedDuration ≤ r.releasedDuration)) s.pool u.pool := by
    refine h.follows.imp fun r _ r' hgoes => ⟨hgoes, fun hc => ?_⟩
    cases hgoes.drives hp with
    | pending hphase => rw [Record.releasedDuration, hphase]; exact Nat.zero_le _
    | same hduration => exact hduration.le
    | released hleast hmost htotal =>
      rw [hc] at htotal
      omega
  exact hsound.sum_le fun x hx y hxy => hxy.2 (hsorted c (mem_allCylinders c) x hx)

/-- The totals of one cylinder in range. -/
def totalsOf (s : State) (c : Cylinder) : Prop :=
  (s.table.get c).released ≤ 8000 ∧ (s.table.get c).lastFired ≤ 16000 ∧ (s.table.get c).fired + s.outstanding c ≤ 8000 + (s.table.get c).released

/-- A change that leaves a cylinder's totals keeps them in range. -/
theorem Change.totalsOf_of_same (h : Change w s u) (hp : s.pool.partitioned) (hsorted : s.pool.sorted) {c : Cylinder}
    (hreleased : (u.table.get c).released = (s.table.get c).released) (hfired : (u.table.get c).fired = (s.table.get c).fired)
    (hlast : (u.table.get c).lastFired = (s.table.get c).lastFired) (hs : totalsOf s c) : totalsOf u c := by
  obtain ⟨h1, h2, h3⟩ := hs
  have hle := h.outstanding_le hp hsorted hreleased
  refine ⟨by omega, by omega, by omega⟩

/-- The end of a running pulse adds no more to the fired total than the pulse had outstanding (R119). -/
theorem closeBank_totalsOf (hs : s.timelineSound) (hsorted : s.pool.sorted) {b : Bank} {p : RunningPulse} {r : Record}
    (hrun : s.runningPulse b = some p) (hfind : s.pool.find p.slot = some r) (hb : s.pulseTimed b = true) (why : PulseEnd)
    (htotals : totalsOf s r.cylinder) : totalsOf (s.closeBank b p r why) r.cylinder := by
  obtain ⟨x, f, a, hx, hphase⟩ := firing_of_runningPulse hs hrun
  cases hfind.symm.trans hx
  obtain ⟨-, hdriven⟩ := pulseTimed_iff.mp hb p r f a hrun hfind hphase
  have htable : (s.closeBank b p r why).table.get r.cylinder = s.closePulse p r why (passedBy s.timeBase (s.actualStart r)) := by
    have hset : (s.closeBank b p r why).table
        = s.table.set r.cylinder (s.closePulse p r why (passedBy s.timeBase (s.actualStart r))) := retire_table _ _ _
    rw [hset, Eight.get_set, if_pos rfl]
  obtain ⟨-, -, hreleased, hlast, hfired, -⟩ := closePulse_keeps s p r why (passedBy s.timeBase (s.actualStart r))
  have hout : (s.closeBank b p r why).outstanding r.cylinder + r.releasedDuration = s.outstanding r.cylinder :=
    retire_outstanding (s := ((s.setBankState b (.recovery (after s.timeBase s.engine.config.bankRecovery))).negateFire
      r.cylinder).setCylinder r.cylinder (s.closePulse p r why (passedBy s.timeBase (s.actualStart r)))) hs.1
      (Pool.find_some hfind).2 (mem_list_of_find hsorted hfind)
  have hduration : r.releasedDuration = f.duration := by rw [Record.releasedDuration, hphase]
  have hactual : passedBy s.timeBase (s.actualStart r) ≤ f.duration := by
    rw [actualStart, hphase]
    exact hdriven
  obtain ⟨h1, h2, h3⟩ := htotals
  refine ⟨?_, ?_, ?_⟩ <;> rw [htable]
  · omega
  · omega
  · omega

theorem Change.totalsOf (h : Change w s u) (hs : s.timelineSound) (hsorted : s.pool.sorted) (hb : s.bounded) (hr : s.rangesSound)
    (hbudget : s.budgetSound) (hpulses : ∀ b, s.pulseTimed b = true) {c : Cylinder} (hc : totalsOf s c) : totalsOf u c := by
  have hsame := fun h1 h2 h3 => h.totalsOf_of_same hs.1 hsorted (c := c) h1 h2 h3 hc
  cases h with
  | table x htended => exact hsame (htended c).released (htended c).fired (htended c).lastFired
  | boundary d =>
    have hget : (s.setCylinder d { s.table.get d with lastFired := (s.table.get d).fired, fired := 0, released := 0 }).table.get c
        = if c = d then { s.table.get d with lastFired := (s.table.get d).fired, fired := 0, released := 0 } else s.table.get c := by
      rw [setCylinder_table, Eight.get_set]
    by_cases hd : c = d
    · subst hd
      rw [if_pos rfl] at hget
      have hout := State.outstanding_le hr hbudget c
      obtain ⟨h1, h2, h3⟩ := hc
      unfold Machine.totalsOf
      rw [hget]
      refine ⟨Nat.zero_le _, by dsimp only; omega, ?_⟩
      show 0 + s.outstanding c ≤ 8000 + 0
      omega
    · rw [if_neg hd] at hget
      exact hsame (by rw [hget]) (by rw [hget]) (by rw [hget])
  | pulseEnd b p r why hrun hfind =>
    by_cases hd : c = r.cylinder
    · subst hd
      exact closeBank_totalsOf hs hsorted hrun hfind (hpulses b) why hc
    · have hget : (s.closeBank b p r why).table.get c = s.table.get c := by
        have hset : (s.closeBank b p r why).table
            = s.table.set r.cylinder (s.closePulse p r why (passedBy s.timeBase (s.actualStart r))) := retire_table _ _ _
        rw [hset, Eight.get_set, if_neg hd]
      exact hsame (by rw [hget]) (by rw [hget]) (by rw [hget])
  | release r d shortened new period hfind hpending hsync hsuppression hfits =>
    have hget : (s.releaseRecord r d shortened new period).table.get c
        = if c = r.cylinder then { s.table.get r.cylinder with released := (s.table.get r.cylinder).released + d } else s.table.get c :=
      Eight.get_set _ _ _ _
    by_cases hd : c = r.cylinder
    · subst hd
      rw [if_pos rfl] at hget
      have hout := releaseRecord_outstanding hs.1 hpending d shortened new period (mem_list_of_find hsorted hfind)
      obtain ⟨-, -, htotal⟩ := budgetAtRelease_bounds hfits
      obtain ⟨-, -, -, -, -, -, -, hmax, -⟩ := hb
      obtain ⟨h1, h2, h3⟩ := hc
      unfold Machine.totalsOf
      rw [hget, hout]
      exact ⟨by dsimp only; omega, h2, by dsimp only; omega⟩
    · rw [if_neg hd] at hget
      exact hsame (by rw [hget]) (by rw [hget]) (by rw [hget])
  | _ => exact hsame rfl rfl rfl

/-- Everything the totals depend on, in range. -/
structure InRange (s : State) : Prop where
  timeline : s.timelineSound
  sorted : s.pool.sorted
  bounded : s.bounded
  ranges : s.rangesSound
  budget : s.budgetSound
  pulses : ∀ b, s.pulseTimed b = true
  totals : ∀ c, totalsOf s c

theorem inRange_totalsSound (h : InRange s) : s.totalsSound :=
  ⟨h.pulses .bankA, h.pulses .bankB, fun c _ => h.totals c⟩

theorem InRange.of_totalsSound (htimeline : s.timelineSound) (hsorted : s.pool.sorted) (hb : s.bounded) (hr : s.rangesSound)
    (hbudget : s.budgetSound) (h : s.totalsSound) : InRange s := by
  obtain ⟨hA, hB, htotals⟩ := h
  exact ⟨htimeline, hsorted, hb, hr, hbudget, fun b => by cases b <;> assumption, fun c => htotals c (mem_allCylinders c)⟩

theorem Change.inRange (h : Change w s u) (hs : InRange s) : InRange u where
  timeline := h.timelineSound hs.timeline
  sorted := h.sorted hs.sorted
  bounded := h.bounded hs.bounded
  ranges := h.rangesSound hs.timeline.1 hs.ranges
  budget := h.budgetSound hs.budget
  pulses b := h.pulseTimed hs.timeline (hs.pulses b)
  totals c := h.totalsOf hs.timeline hs.sorted hs.bounded hs.ranges hs.budget hs.pulses (hs.totals c)

theorem Path.inRange (h : Path w s u) : InRange s → InRange u := h.keeps fun _ _ hc => hc.inRange

end change

section act
variable {s u : State}

/-- A PENDING record put into a slot without a FIRING one leaves pulses and totals, when no more is outstanding (R93, R98). -/
theorem totals_of_pending {p : Pool} {k : Slot} {x : Option Record} (hfind : ∀ j, p.find j = if j = k then x else s.pool.find j)
    (hx : ∀ r ∈ x, r.phase = .pending) (hout : ∀ c, (s.setPool p).outstanding c ≤ s.outstanding c)
    (hpulses : ∀ b, s.pulseTimed b = true) (htotals : ∀ c, totalsOf s c) :
    (∀ b, (s.setPool p).pulseTimed b = true) ∧ ∀ c, totalsOf (s.setPool p) c := by
  refine ⟨fun b => pulseTimed_of (hpulses b) rfl (pulseFrom_of_state rfl)
    (Pool.firingFrom_of_find hfind fun r hr => Record.isFiring_of_pending (hx r hr)), fun c => ?_⟩
  obtain ⟨h1, h2, h3⟩ := htotals c
  exact ⟨h1, h2, (Nat.add_le_add_left (hout c) _).trans h3⟩

theorem filled_outstanding (s : State) (q : PlanInput) (marks : List Mark) (d : Nat) (tag : Byte) (carried : Bool) (repeats : Nat)
    (report : Bool) (k : Slot) (c : Cylinder) :
    (s.filled q marks d tag carried repeats report k).outstanding c = (s.displaceMarked marks).outstanding c := by
  rw [outstanding, filled_lists]
  split
  · rw [((Pool.insertByOffset_perm _ _).map _).sum_eq, List.map_cons, List.sum_cons]
    exact Nat.zero_add _
  · rfl

theorem replaceAmended_outstanding (hp : s.pool.partitioned) {r : Record} (hfind : s.pool.find r.slot = some r)
    (hpending : r.isPending = true) (offset : Int) (d : Nat) (c : Cylinder) :
    (s.replaceAmended r offset d).outstanding c ≤ s.outstanding c := by
  obtain ⟨-, hperm⟩ | heq := replaceAmended_perm hp hfind offset d c
  · have hzero : (s.amended r offset d).releasedDuration = 0 := by
      rw [Record.releasedDuration, amended_phase, Record.not_pending hpending]
    rw [outstanding, (hperm.map _).sum_eq, List.map_cons, List.sum_cons, hzero, Nat.zero_add]
    exact (List.filter_sublist.map _).sum_le_sum fun _ _ => Nat.zero_le _
  · rw [outstanding, heq]
    rfl

theorem Act.inRange (h : Act s u) (hs : InRange s) : InRange u := by
  have htimeline := h.timelineSound hs.timeline
  have hsorted := h.sorted hs.timeline.1 hs.sorted
  have hb := h.bounded hs.bounded
  have hr := h.rangesSound hs.timeline.1 hs.bounded hs.ranges
  have hbudget := h.budgetSound hs.timeline.1 hs.sorted hs.bounded hs.budget
  have hgoal (h : (∀ b, u.pulseTimed b = true) ∧ ∀ c, totalsOf u c) : InRange u :=
    ⟨htimeline, hsorted, hb, hr, hbudget, h.1, h.2⟩
  refine hgoal ?_
  cases h with
  | calm h => exact ⟨(h.inRange hs).pulses, (h.inRange hs).totals⟩
  | whole h => exact ⟨(h.inRange hs).pulses, (h.inRange hs).totals⟩
  | place q marks d bc tag carried repeats report k rest hplan hsound hexclude hrepeats hfree =>
    have hdisplaced := (displaceMarked_path true marks s (planFit_idle hplan)).inRange hs
    refine totals_of_pending (filled_find hdisplaced.timeline.1 hfree q d tag carried repeats report) (fun r hr => ?_)
      (fun c => (filled_outstanding s q marks d tag carried repeats report k c).le) hdisplaced.pulses hdisplaced.totals
    obtain rfl := Option.some.inj hr
    rfl
  | amend r q marks d bc hfind hpending hplan hsound hexclude =>
    have hdisplaced := (displaceMarked_path true marks s (planFit_idle hplan)).inRange hs
    have hfind' : (s.displaceMarked marks).pool.find r.slot = some r := by
      rw [displaceMarked_find_excluded hplan hexclude]
      exact hfind
    have hout := replaceAmended_outstanding hdisplaced.timeline.1 hfind' hpending q.offset d
    rw [replaceAmended_registers] at hout ⊢
    refine totals_of_pending (replaceAmended_find hdisplaced.timeline.1 hfind' q.offset d) (fun x hx => ?_) hout
      hdisplaced.pulses hdisplaced.totals
    obtain rfl := Option.some.inj hx
    rw [amended_phase, Record.not_pending hpending]
  | reset lines =>
    obtain ⟨-, -, -, -, -, -, -, ⟨hA, hB, htotals⟩, -⟩ := invariantsAtReset
    exact ⟨fun b => by cases b; exacts [hA, hB], fun c => htotals c (mem_allCylinders c)⟩
  | config c hstopped hempty => exact ⟨hs.pulses, hs.totals⟩
  | commit hstopped hempty =>
    refine ⟨hs.pulses, fun c => ?_⟩
    have hout : s.outstanding c = 0 := by rw [outstanding, lists_of_empty hempty]; rfl
    unfold totalsOf
    rw [setTable_table, Eight.get_map]
    refine ⟨Nat.zero_le _, Nat.zero_le _, ?_⟩
    show 0 + s.outstanding c ≤ 8000 + 0
    omega

end act

/-- The fired total of a cylinder in range is at most 16,000. -/
theorem InRange.fired_le {s : State} (h : InRange s) (c : Cylinder) :
    (s.table.get c).released ≤ 8000 ∧ (s.table.get c).fired ≤ 16000 ∧ (s.table.get c).lastFired ≤ 16000 := by
  obtain ⟨h1, h2, h3⟩ := h.totals c
  exact ⟨h1, by omega, h2⟩

/-- A command taken now is a run from the state as it stands. -/
theorem exec_run_now {c : Instr} {s u : State} (hnow : ∀ t, c.takenAt = some t → t = s.timeBase) (h : exec c s = .next u) : Run s u := by
  obtain ⟨v, hv, hrun⟩ := exec_run c s
  cases hv.symm.trans h
  cases htaken : c.takenAt with
  | none =>
    have hsame : arrival c s = s := by simp [arrival, htaken]
    rwa [hsame] at hrun
  | some t =>
    rw [arrival_of_some htaken, hnow t htaken, arrive_now] at hrun
    exact hrun

/-! ### Time passing (R25, R119) -/

/-- With an end ahead by less than 2^31 microseconds, its delay is the difference; what the time base may pass by then leaves the start no
further behind than the end. -/
theorem passed_le_of_delay {now start t : Time} {d : Nat} (hd : d < 2 ^ 31) (hpassed : (now - start).toNat ≤ d)
    (hdelay : (t - now).toNat ≤ if (now - (start + BitVec.ofNat 32 d)).toNat < 2 ^ 31 then 0 else (start + BitVec.ofNat 32 d - now).toNat) :
    (t - start).toNat ≤ d := by
  split at hdelay <;> bv_omega

/-- While no timer is due before it, a time passed to leaves every pulse within its duration (R119). -/
theorem pulseTimed_setTimeBase {s : State} {t : Time} (hquiet : ∀ k d, s.nextTimer = some (k, d) → (t - s.timeBase).toNat ≤ d)
    (hs : s.totalsSound) {b : Bank} (hb : s.pulseTimed b = true) : (s.setTimeBase t).pulseTimed b = true := by
  rw [pulseTimed_iff] at hb ⊢
  intro p r f a hp hr hphase
  obtain ⟨hends, hpassed⟩ := hb p r f a hp hr hphase
  refine ⟨hends, ?_⟩
  obtain ⟨c, hc⟩ := (Pool.mem_records _ _).mp (Pool.find_some hr).1
  have hmost : f.duration ≤ s.outstanding c := by
    have := releasedDuration_le_outstanding hc
    rwa [Record.releasedDuration, hphase] at this
  obtain ⟨-, -, htotals⟩ := hs
  obtain ⟨hreleased, -, hfired⟩ := htotals c (mem_allCylinders c)
  have hsmall : f.duration < 2 ^ 31 := by omega
  have harmed : s.armedFor (.pulseEnd b) p.ends := by
    cases hstate : (s.drivers.get b).state with
    | firing x =>
      have hp' : s.runningPulse b = some p := hp
      rw [runningPulse, hstate] at hp'
      cases hp'
      exact ⟨p, hstate, rfl⟩
    | idle | recovery =>
      have hp' : s.runningPulse b = some p := hp
      rw [runningPulse, hstate] at hp'
      cases hp'
  cases hnext : s.nextTimer with
  | none => exact absurd harmed ((nextTimer_eq_none s).mp hnext _ _)
  | some kd =>
    obtain ⟨k, d⟩ := kd
    have hdelay := (hquiet k d hnext).trans ((nextTimer_eq_some hnext).2 _ _ harmed)
    rw [delayTo, hends] at hdelay
    exact passed_le_of_delay hsmall hpassed hdelay

/-- Settles O10: every change keeps each range, and what a cylinder may still drive never exceeds what its totals leave. -/
theorem boundsKept : Obligations.BoundsKept := by
  unfold Obligations.BoundsKept
  refine ⟨fun s s' hs h => ?_, fun s s' hs h => ?_, fun s s' => step_raised, fun s s' hp hb hr h => ?_, fun s s' hp hsorted hb hs h => ?_,
    fun c s s' hnow htimeline hsorted _ hb hr hbudget hs h => ?_, fun s t hquiet hs => ?_⟩
  · exact step_keeps (P := fun s => s.bounded) (fun _ _ hact => hact.bounded) (fun _ _ h => h) (fun _ _ h => h) h hs
  · exact step_keeps (P := fun s => s.carrySound) (fun _ _ hact => hact.carrySound) (fun _ _ h => h) (fun _ _ h => h) h hs
  · exact (step_keeps (P := fun s => s.pool.partitioned ∧ s.bounded ∧ s.rangesSound)
      (fun _ _ hact ⟨hp, hb, hr⟩ => ⟨hact.partitioned hp, hact.bounded hb, hact.rangesSound hp hb hr⟩) (fun _ _ h => h)
      (fun _ _ h => h) h ⟨hp, hb, hr⟩).2.2
  · exact (step_keeps (P := fun s => s.pool.partitioned ∧ s.pool.sorted ∧ s.bounded ∧ s.budgetSound)
      (fun _ _ hact ⟨hp, hsorted, hb, hs⟩ => ⟨hact.partitioned hp, hact.sorted hp hsorted, hact.bounded hb,
        hact.budgetSound hp hsorted hb hs⟩) (fun _ _ h => h) (fun _ _ h => h) h ⟨hp, hsorted, hb, hs⟩).2.2.2
  · have hafter := (exec_run_now hnow h).keeps (fun _ _ hact => hact.inRange)
      (InRange.of_totalsSound htimeline hsorted hb hr hbudget hs)
    exact ⟨inRange_totalsSound hafter, hafter.fired_le⟩
  · have htotals := hs.2.2
    exact ⟨pulseTimed_setTimeBase hquiet hs hs.1, pulseTimed_setTimeBase hquiet hs hs.2.1, htotals⟩

end Sys2Proof.Machine
end
